-- ==== Sys2Proof/Word.lean ====
section
/-!
DEFINITION. The byte of the station link, and `Table`, a fixed number of like records.
Rule numbers R<n> are those of spec/.
-/

namespace Sys2Proof

/-- One byte of a message or of a bit field on the link (R192). -/
abbrev Byte := BitVec 8

/-- `n` records of one kind, indexed `0..n-1`: meter slots, districts, cells, stations.
A list of exactly `n` entries, so equal tables are equal lists. -/
abbrev Table (n : Nat) (α : Type) := { l : List α // l.length = n }

/-- The record with index `i`. -/
def Table.get {n : Nat} {α : Type} (t : Table n α) (i : Fin n) : α :=
  t.1[i.1]'(by rw [t.2]; exact i.2)

/-- The table with record `i` replaced. -/
def Table.set {n : Nat} {α : Type} (t : Table n α) (i : Fin n) (a : α) : Table n α :=
  ⟨t.1.set i.1 a, by rw [List.length_set, t.2]⟩

/-- The table with record `i` changed by `f`. -/
def Table.modify {n : Nat} {α : Type} (t : Table n α) (i : Fin n) (f : α → α) : Table n α :=
  t.set i (f (t.get i))

/-- The table with every record changed by `f`. -/
def Table.map {n : Nat} {α β : Type} (f : α → β) (t : Table n α) : Table n β :=
  ⟨t.1.map f, by rw [List.length_map, t.2]⟩

/-- `n` copies of one record. -/
def Table.replicate (n : Nat) {α : Type} (a : α) : Table n α :=
  ⟨List.replicate n a, List.length_replicate⟩

/-- The record at a number, if the number is an index. -/
def Table.get? {n : Nat} {α : Type} (t : Table n α) (i : Nat) : Option α := t.1[i]?

end Sys2Proof
end

