-- ==== Sys2Proof/Syntax.lean ====
section
/-!
DEFINITION. The commands of the NB-32: one constructor for each row of spec/opcode_table.json, in the table's order.
-/

namespace Sys2Proof

/-- District index 0..31 (R62). -/
abbrev District := Fin 32

/-- A step of the part (spec/95). An event row carries what the outside decides about it.
A request row carries the BODY of the message that the holder of the link grant sends, byte by byte (R191, R198);
`unbindMeter`, `setServiceOut` and `setServiceIn` are each one form of a kind code and carry the byte that is left open (log 3). -/
inductive Instr
  | powerOnReset (strap : BitVec 4)
  | minuteEvent
  | windowStart
  | windowEnd
  | graceExpiry
  | holdExpiry (district : District)
  | choice
  | evaluationCompletion
  | contention (address : BitVec 4)
  | fairnessHoldCleared
  | envelopeCheckRefusal (message : List Byte)
  | answerCompletion
  | handshakeTimeout
  | breakEndsGrant
  | linkBreak
  | setTime (body : List Byte)
  | setWindow (body : List Byte)
  | closeNight (body : List Byte)
  | restartEngine (body : List Byte)
  | bindMeter (body : List Byte)
  | unbindMeter (slot : Byte)
  | enableMeter (body : List Byte)
  | disableMeter (body : List Byte)
  | readMeter (body : List Byte)
  | readStrayList (body : List Byte)
  | forgetStrays (body : List Byte)
  | postReading (body : List Byte)
  | postPressure (body : List Byte)
  | configureDistrict (body : List Byte)
  | setServiceOut (district : Byte)
  | setServiceIn (district : Byte)
  | holdDistrict (body : List Byte)
  | releaseDistrict (body : List Byte)
  | readDistrict (body : List Byte)
  | readResult (body : List Byte)
  | readQueue (body : List Byte)
  | setBaselineMode (body : List Byte)
  | loadRing (body : List Byte)
  | clearRing (body : List Byte)
  | readRing (body : List Byte)
  | acknowledge (body : List Byte)
  | markRepaired (body : List Byte)
  | readWatch (body : List Byte)
  | setStation (body : List Byte)
  | setEventMask (body : List Byte)
  | takeNotice (body : List Byte)
  | readEvents (body : List Byte)
  | readStatus (body : List Byte)
  | clearCounters (body : List Byte)
  | frameEnd (up : BitVec 32)
  | rstnHeldLow
  deriving DecidableEq, Repr

end Sys2Proof
end

