-- ==== Sys2Proof/WellFormed.lean ====
section
/-!
DEFINITION. Which commands the outside can send at all. `exec` gives every command a meaning, well-formed or not.
-/

namespace Sys2Proof

/-- The body of the request message a request row stands for; none for an event row (R193, R198).
UNBIND METER is BIND METER with identifier 0 and both links absent (R193); the service rows carry OUT 0 or IN 1 (R194). -/
def Instr.requestBody : Instr → Option (List Byte)
  | .setTime b | .setWindow b | .closeNight b | .restartEngine b | .bindMeter b | .enableMeter b
  | .disableMeter b | .readMeter b | .readStrayList b | .forgetStrays b | .postReading b | .postPressure b
  | .configureDistrict b | .holdDistrict b | .releaseDistrict b | .readDistrict b | .readResult b
  | .readQueue b | .setBaselineMode b | .loadRing b | .clearRing b | .readRing b | .acknowledge b
  | .markRepaired b | .readWatch b | .setStation b | .setEventMask b | .takeNotice b | .readEvents b
  | .readStatus b | .clearCounters b => some b
  | .unbindMeter slot => some [slot, 0, 0, 0, 0, 0, 0, 0]
  | .setServiceOut d => some [d, 0]
  | .setServiceIn d => some [d, 1]
  | .powerOnReset _ | .minuteEvent | .windowStart | .windowEnd | .graceExpiry | .holdExpiry _ | .choice
  | .evaluationCompletion | .contention _ | .fairnessHoldCleared | .envelopeCheckRefusal _
  | .answerCompletion | .handshakeTimeout | .breakEndsGrant | .linkBreak | .frameEnd _ | .rstnHeldLow => none

/-- A command the outside can send: the board straps 1..15 (section 6), a message that ends holds at least one byte (R181),
and a request message of at most 64 bytes has a body of at most 61 (R183). -/
def Instr.wellFormed (i : Instr) : Bool :=
  match i with
  | .powerOnReset strap => strap != 0#4
  | .envelopeCheckRefusal message => !message.isEmpty
  | i => match i.requestBody with
    | some body => decide (body.length ≤ 61)
    | none => true

end Sys2Proof
end

