-- ==== Sys2Proof/Decode.lean ====
section
/-!
DEFINITION. The byte layer of the link: byte order (R191), the CRC-8 (R190), the request catalogue (R193),
the envelope of a message (R183), and `decodeTableWord`.
-/

namespace Sys2Proof

/-- The command a word of the opcode table spells. No row of the table gives bits, so no word spells one. -/
def decodeTableWord (_nbits _w : Nat) : Option Instr := none

/-! ## Byte order (R191) -/

/-- Two bytes, most significant first. -/
def word16 (b1 b0 : Byte) : Nat := b1.toNat * 256 + b0.toNat

/-- Three bytes, most significant first. -/
def word24 (b2 b1 b0 : Byte) : Nat := b2.toNat * 65536 + word16 b1 b0

/-- Four bytes, most significant first. -/
def word32 (b3 b2 b1 b0 : Byte) : Nat := b3.toNat * 16777216 + word24 b2 b1 b0

/-- Four bytes as a two's complement value (R191). -/
def signed32 (b3 b2 b1 b0 : Byte) : Int := (BitVec.ofNat 32 (word32 b3 b2 b1 b0)).toInt

/-- The low 8 bits of a number as a byte. -/
def byte (n : Nat) : Byte := BitVec.ofNat 8 n

/-- A number in two bytes. -/
def be16 (n : Nat) : List Byte := [byte (n / 256), byte n]

/-- A number in three bytes. -/
def be24 (n : Nat) : List Byte := [byte (n / 65536), byte (n / 256), byte n]

/-- A number in four bytes. -/
def be32 (n : Nat) : List Byte := [byte (n / 16777216), byte (n / 65536), byte (n / 256), byte n]

/-- A signed value in four bytes, two's complement. -/
def beSigned32 (i : Int) : List Byte := be32 (BitVec.ofInt 32 i).toNat

/-! ## CRC-8 (R190) -/

/-- One shift of the register: the bit shifted out brings in 07h. -/
def crcShift (r : Byte) : Byte := if r.msb then (r <<< 1) ^^^ 0x07#8 else r <<< 1

/-- The register after one more byte. -/
def crcByte (r b : Byte) : Byte := crcShift^[8] (r ^^^ b)

/-- The check byte of a run of bytes, the register starting from 0. -/
def crc8 (bytes : List Byte) : Byte := bytes.foldl crcByte 0#8

/-! ## Request kinds (R193) -/

/-- The requests of the catalogue. BIND_METER serves UNBIND METER too, SET_SERVICE both service rows. -/
inductive Kind
  | setTime | setWindow | closeNight | restartEngine
  | bindMeter | enableMeter | disableMeter | readMeter | readStrayList | forgetStrays
  | postReading | postPressure
  | configureDistrict | setService | holdDistrict | releaseDistrict | readDistrict | readResult | readQueue
  | setBaselineMode | loadRing | clearRing | readRing
  | acknowledge | markRepaired | readWatch
  | setStation | setEventMask | takeNotice | readEvents | readStatus | clearCounters
  deriving DecidableEq, Repr

/-- The kind code (R193). -/
def Kind.code : Kind → Byte
  | .setTime => 0x01 | .setWindow => 0x02 | .closeNight => 0x03 | .restartEngine => 0x04
  | .bindMeter => 0x10 | .enableMeter => 0x11 | .disableMeter => 0x12 | .readMeter => 0x13
  | .readStrayList => 0x14 | .forgetStrays => 0x15
  | .postReading => 0x20 | .postPressure => 0x21
  | .configureDistrict => 0x30 | .setService => 0x31 | .holdDistrict => 0x32 | .releaseDistrict => 0x33
  | .readDistrict => 0x34 | .readResult => 0x35 | .readQueue => 0x36
  | .setBaselineMode => 0x40 | .loadRing => 0x41 | .clearRing => 0x42 | .readRing => 0x43
  | .acknowledge => 0x50 | .markRepaired => 0x51 | .readWatch => 0x52
  | .setStation => 0x60 | .setEventMask => 0x61 | .takeNotice => 0x62 | .readEvents => 0x63
  | .readStatus => 0x64 | .clearCounters => 0x65

/-- Every kind of the catalogue, in its order. -/
def Kind.all : List Kind :=
  [.setTime, .setWindow, .closeNight, .restartEngine, .bindMeter, .enableMeter, .disableMeter, .readMeter,
   .readStrayList, .forgetStrays, .postReading, .postPressure, .configureDistrict, .setService, .holdDistrict,
   .releaseDistrict, .readDistrict, .readResult, .readQueue, .setBaselineMode, .loadRing, .clearRing, .readRing,
   .acknowledge, .markRepaired, .readWatch, .setStation, .setEventMask, .takeNotice, .readEvents, .readStatus,
   .clearCounters]

/-- The kind a kind byte names, if it is a code of the catalogue. -/
def Kind.ofByte (b : Byte) : Option Kind := Kind.all.find? (fun k => k.code == b)

/-- The kind of the request a request row stands for. -/
def Instr.requestKind : Instr → Option Kind
  | .setTime _ => some .setTime
  | .setWindow _ => some .setWindow
  | .closeNight _ => some .closeNight
  | .restartEngine _ => some .restartEngine
  | .bindMeter _ => some .bindMeter
  | .unbindMeter _ => some .bindMeter
  | .enableMeter _ => some .enableMeter
  | .disableMeter _ => some .disableMeter
  | .readMeter _ => some .readMeter
  | .readStrayList _ => some .readStrayList
  | .forgetStrays _ => some .forgetStrays
  | .postReading _ => some .postReading
  | .postPressure _ => some .postPressure
  | .configureDistrict _ => some .configureDistrict
  | .setServiceOut _ => some .setService
  | .setServiceIn _ => some .setService
  | .holdDistrict _ => some .holdDistrict
  | .releaseDistrict _ => some .releaseDistrict
  | .readDistrict _ => some .readDistrict
  | .readResult _ => some .readResult
  | .readQueue _ => some .readQueue
  | .setBaselineMode _ => some .setBaselineMode
  | .loadRing _ => some .loadRing
  | .clearRing _ => some .clearRing
  | .readRing _ => some .readRing
  | .acknowledge _ => some .acknowledge
  | .markRepaired _ => some .markRepaired
  | .readWatch _ => some .readWatch
  | .setStation _ => some .setStation
  | .setEventMask _ => some .setEventMask
  | .takeNotice _ => some .takeNotice
  | .readEvents _ => some .readEvents
  | .readStatus _ => some .readStatus
  | .clearCounters _ => some .clearCounters
  | .powerOnReset _ | .minuteEvent | .windowStart | .windowEnd | .graceExpiry | .holdExpiry _ | .choice
  | .evaluationCompletion | .contention _ | .fairnessHoldCleared | .envelopeCheckRefusal _
  | .answerCompletion | .handshakeTimeout | .breakEndsGrant | .linkBreak | .frameEnd _ | .rstnHeldLow => none

/-! ## Status and envelope (R183, R194) -/

/-- The status every answer carries (section 4.4). -/
inductive Status
  | ok | check | length | unknownKind | role | range | state | busy | locked | duplicateId | noTime | nonePending
  deriving DecidableEq, Repr

/-- The status byte (R194). -/
def Status.code : Status → Byte
  | .ok => 0x00 | .check => 0x01 | .length => 0x02 | .unknownKind => 0x03 | .role => 0x04 | .range => 0x05
  | .state => 0x06 | .busy => 0x07 | .locked => 0x08 | .duplicateId => 0x09 | .noTime => 0x0A | .nonePending => 0x0B

/-- A message: the bytes before the check byte, closed by their CRC-8 (R190). -/
def closed (bytes : List Byte) : List Byte := bytes ++ [crc8 bytes]

/-- The request message of a kind and a body: kind byte, body length, body, check byte (R183). -/
def requestMessage (k : Kind) (body : List Byte) : List Byte := closed (k.code :: byte body.length :: body)

/-- The answer message: the request's kind byte with its top bit set, the status, the body length, the body, the check byte (R184). -/
def answerMessage (kindByte : Byte) (status : Status) (body : List Byte) : List Byte :=
  closed ((kindByte ||| 0x80#8) :: status.code :: byte body.length :: body)

/-- What the envelope checks make of a received message. -/
inductive Envelope
  | request (kind : Kind) (body : List Byte)
  | refused (status : Status)
  deriving DecidableEq, Repr

/-- The five envelope checks of R183, in their order, on the receive buffer and its over-length mark. -/
def openEnvelope (received : List Byte) (overLength : Bool) : Envelope :=
  if overLength then .refused .length
  else if received.length < 3 then .refused .length
  else if received.getLast? ≠ some (crc8 received.dropLast) then .refused .check
  else if (received.getD 1 0).toNat ≠ received.length - 3 then .refused .length
  else match Kind.ofByte (received.getD 0 0) with
    | none => .refused .unknownKind
    | some k => .request k (received.drop 2).dropLast

/-- The message of a request row, as a station sends it; none for an event row. -/
def Instr.message (i : Instr) : Option (List Byte) :=
  match i.requestKind, i.requestBody with
  | some k, some body => some (requestMessage k body)
  | _, _ => none

end Sys2Proof
end

