-- ==== Sys2Proof/Config.lean ====
section
/-!
DEFINITION. What the board fixes and what the manual leaves open.
-/

namespace Sys2Proof

/-- Levels on ADDR3..ADDR0 of the board that `State.reset` stands for.
DESIGN CHOICE (unsafe, log 5): the manual gives the pins no level of their own (section 6, R158). -/
def Config.boardStrap : BitVec 4 := 3#4

/-- Which of the events that fall at one clock time is taken next, as an index into them (modulo their number).
A free value: R18 says that a hold expiry and a boundary event at one time may be taken in either order,
and gives no order among hold expiries (log 9). Applied to `State.freeCount`. -/
opaque Config.tiePick : Nat → Nat

end Sys2Proof
end

