-- ==== Sys2Proof/Machine/State.lean ====
section
/-!
DEFINITION. The state of the part as plain data, block by block, and the state after power-on reset.
-/

namespace Sys2Proof.Machine

/-- Station position 0..3 (R158). -/
abbrev Position := Fin 4

/-- Meter slot index 0..255 (R21). -/
abbrev SlotIndex := Fin 256

/-- A set of districts: bit d is set when district d is a member (R158, R198). -/
abbrev DistrictSet := BitVec 32

/-! ## Night Clock (chapter 1) -/

/-- A clock time: a day number and a minute of day (R1). -/
structure ClockTime where
  day : Nat
  minute : Nat
  deriving DecidableEq, Repr

/-- The night phase (R1, section 1.4). -/
inductive Phase
  | stopped | daytime | collecting | settling | closing
  deriving DecidableEq, Repr

/-- The state of the NCK (R1). -/
structure NightClock where
  clock : ClockTime
  divider : Nat
  clockSet : Bool
  wstart : Nat
  wlen : Nat
  grace : Nat
  phase : Phase
  nightDay : Option Nat
  nightMark : Option ClockTime
  deriving DecidableEq, Repr

/-! ## Meter Directory and Reading Grid (chapters 2 and 3) -/

/-- The role of a link (R22). -/
inductive LinkRole
  | inlet | outlet | user
  deriving DecidableEq, Repr

/-- A link of a slot to a district (R21, R22). -/
structure MeterLink where
  district : District
  role : LinkRole
  deriving DecidableEq, Repr

/-- The state of a volume cell (R38). -/
inductive CellState
  | empty | good | estimated
  deriving DecidableEq, Repr

/-- A volume cell (R38). -/
structure Cell where
  state : CellState
  volume : Nat
  deriving DecidableEq, Repr

/-- A meter slot record with its 16 cells (R21, R38). -/
structure Slot where
  identifier : Nat
  enabled : Bool
  primary : Option MeterLink
  secondary : Option MeterLink
  protect : Bool
  heldMean : Option Nat
  duplicates : Nat
  conflicts : Nat
  cells : Table 16 Cell
  deriving DecidableEq, Repr

/-- An entry of the stray list (R33). -/
structure Stray where
  identifier : Nat
  count : Nat
  day : Nat
  deriving DecidableEq, Repr

/-! ## District Table (chapter 4) -/

/-- The leakage exponent code N1 (R63). -/
inductive Exponent
  | none | half | one | oneHalf
  deriving DecidableEq, Repr

/-- The eleven parameters of a district (R63). -/
structure Params where
  properties : Nat
  allowance : Nat
  pRef : Nat
  n1 : Exponent
  m : Nat
  tAbs : Nat
  tRel : Nat
  burst : Nat
  nConfirm : Nat
  gapLimit : Nat
  subLim : Nat
  deriving DecidableEq, Repr

/-- The night state of a district (R64); `opened` is OPEN. -/
inductive NightState
  | idle | opened | queued | evaluating | done | skipped
  deriving DecidableEq, Repr

/-- An edit hold (R72). -/
structure Hold where
  holder : Position
  expiry : ClockTime
  deriving DecidableEq, Repr

/-- The status of a result (R100). -/
inductive ResultStatus
  | clean | patched | unusable | skipped
  deriving DecidableEq, Repr

/-- The reason of an UNUSABLE or SKIPPED result (R100). -/
inductive Reason
  | tooSparse | noHistory | noMeters | abandoned
  deriving DecidableEq, Repr

/-- The verdict of a night (R119). -/
inductive Verdict
  | none | normal | excess | burst
  deriving DecidableEq, Repr

/-- The flags of a result (R120). -/
structure ResultFlags where
  uncorrected : Bool
  pressureHeld : Bool
  pressureClamped : Bool
  figureClamped : Bool
  deriving DecidableEq, Repr

/-- B, T and X of a result judged against a baseline (R115 to R117). -/
structure Comparison where
  b : Int
  t : Int
  x : Int
  deriving DecidableEq, Repr

/-- The figures of a usable result (R121). -/
structure Figures where
  nf : Int
  minInterval : Nat
  pUsed : Option Nat
  f : Nat
  c : Int
  compared : Option Comparison
  deriving DecidableEq, Repr

/-- A result record (R79, R100, R121). -/
structure Result where
  nightDay : Nat
  status : ResultStatus
  reason : Option Reason
  flags : ResultFlags
  slotsUsed : Nat
  cellsSubstituted : Nat
  figures : Option Figures
  verdict : Verdict
  deriving DecidableEq, Repr

/-- A district record (R62). -/
structure DistrictRecord where
  params : Params
  inService : Bool
  nightState : NightState
  hold : Option Hold
  heldPressure : Option Nat
  result : Option Result
  deriving DecidableEq, Repr

/-! ## Evaluation Unit (chapter 5) -/

/-- Why a district joined the queue (R83). -/
inductive QueueReason
  | complete | grace
  deriving DecidableEq, Repr

/-- An entry of the Evaluation Queue (R83). -/
structure QueueEntry where
  district : District
  reason : QueueReason
  deriving DecidableEq, Repr

/-- A slot of a snapshot: the role of the link that names the district, cells 0..WLEN-1, and the held mean (R87). -/
structure SnapshotSlot where
  role : LinkRole
  cells : List Cell
  heldMean : Option Nat
  deriving DecidableEq, Repr

/-- The unit's own copy of everything the evaluation will use (R87). -/
structure Snapshot where
  nightDay : Nat
  wstart : Nat
  wlen : Nat
  params : Params
  slots : List SnapshotSlot
  pressure : List (Option Nat)
  heldPressure : Option Nat
  baseline : Option Int
  deriving DecidableEq, Repr

/-- The evaluation in flight: its district and its snapshot (R82). -/
structure Flight where
  district : District
  snapshot : Snapshot
  deriving DecidableEq, Repr

/-! ## Baseline Store (chapter 7) -/

/-- The baseline mode (R123). -/
inductive BaselineMode
  | learned | fixed
  deriving DecidableEq, Repr

/-- A ring entry (R124). -/
structure RingEntry where
  nightDay : Nat
  figure : Int
  deriving DecidableEq, Repr

/-- The Baseline Store's record of a district (R123). -/
structure Baseline where
  ring : List RingEntry
  mode : BaselineMode
  rank : Nat
  fixed : Nat
  deriving DecidableEq, Repr

/-! ## Leak Watch (chapter 8) -/

/-- The watch state (R136, R137). -/
inductive WatchState
  | out | learning | quiet | watch | alerted | acknowledged
  deriving DecidableEq, Repr

/-- The alert of a district (R136, R140). -/
inductive Alert
  | none | rising | burst | dataLoss | cleared
  deriving DecidableEq, Repr

/-- The Leak Watch's record of a district (R136). -/
structure Watch where
  state : WatchState
  excess : Nat
  gap : Nat
  alert : Alert
  deriving DecidableEq, Repr

/-! ## Station Table and Notices (chapter 9) -/

/-- The role of an occupied station position (R158). -/
inductive StationRole
  | telemetry | gateway | pressure | service
  deriving DecidableEq, Repr

/-- The five event flags (R168). -/
inductive EventFlag
  | powerUp | nightClosed | holdEnded | linkFault | configChanged
  deriving DecidableEq, Repr

/-- A station entry (R158). `role` is none when the position is free. Masks and flags are numbered as in R194. -/
structure Station where
  address : BitVec 4
  role : Option StationRole
  subscription : DistrictSet
  kindMask : BitVec 4
  eventMask : BitVec 5
  pendingSet : DistrictSet
  flags : BitVec 5
  deriving DecidableEq, Repr

/-! ## Station Link Interface and Request Handler (chapter 10) -/

/-- The grant phase (R175). -/
inductive GrantPhase
  | free | request | answer | trailer
  deriving DecidableEq, Repr

/-- The receive step (R175). -/
inductive RecvStep
  | first | byte | clear
  deriving DecidableEq, Repr

/-- The send step (R175). -/
inductive SendStep
  | offer | release | next
  deriving DecidableEq, Repr

/-- The fairness hold (R175, R179). -/
structure FairnessHold where
  address : BitVec 4
  freeFrames : Nat
  deriving DecidableEq, Repr

/-- The state of the SLI (R175), and the bits of DN in the frame being sent (R176, R192; the first bit period is the most significant bit). -/
structure Link where
  phase : GrantPhase
  holder : Option (BitVec 4)
  recvStep : RecvStep
  sendStep : SendStep
  frames : Nat
  clearFrames : Nat
  recvBuf : List Byte
  overLength : Bool
  answer : List Byte
  sendPos : Nat
  fairness : Option FairnessHold
  breakRun : Nat
  dn : BitVec 32
  deriving DecidableEq, Repr

/-- What the answer completion of a TAKE NOTICE will remove (R166, R175). -/
structure NoticeNote where
  position : Position
  district : District
  deriving DecidableEq, Repr

/-- What the answer completion of a READ EVENTS will clear (R169, R175). -/
structure EventsNote where
  position : Position
  flags : BitVec 5
  deriving DecidableEq, Repr

/-- The notes of the RQH (R175). -/
structure RequestHandler where
  notice : Option NoticeNote
  events : Option EventsNote
  deriving DecidableEq, Repr

/-- The nine device counters (R171), in the order of R171. -/
structure Counters where
  checkErrors : Nat
  lengthErrors : Nat
  unknownContentions : Nat
  fairnessDiscards : Nat
  handshakeTimeouts : Nat
  linkBreaks : Nat
  readingsStored : Nat
  readingsLate : Nat
  unknownMeters : Nat
  deriving DecidableEq, Repr

/-! ## The whole part -/

/-- The state of the NB-32, of the commands that wait for it (`pending`), and of the model's counter of open orders (`freeCount`, log 9). -/
structure State where
  /-- RSTN is released and the supply is present (R176). -/
  running : Bool
  nck : NightClock
  slots : Table 256 Slot
  strays : List Stray
  /-- The pressure cells of each district (R40). -/
  pressure : Table 32 (Table 16 (Option Nat))
  districts : Table 32 DistrictRecord
  queue : List QueueEntry
  flight : Option Flight
  choiceDue : Bool
  baselines : Table 32 Baseline
  watches : Table 32 Watch
  stations : Table 4 Station
  link : Link
  rqh : RequestHandler
  counters : Counters
  pending : List Instr
  freeCount : Nat
  deriving DecidableEq, Repr

/-- The part never stops with a fault: the manual gives every event and every request an effect, an answer or no trace. -/
inductive Fault
  deriving DecidableEq, Repr

/-- Why a command has no meaning. -/
inductive Refusal
  /-- Raised by an arm of `exec` that has no meaning yet; safe (the model stops). No arm raises it. -/
  | notModelled (mnemonic : String)
  deriving DecidableEq, Repr

/-- The outcome of a step of this machine. -/
abbrev StepOutcome := Host.Outcome State Fault Refusal

/-! ## Reset values -/

/-- A cell after reset or purge (R38). -/
def emptyCell : Cell := ⟨.empty, 0⟩

/-- An unbound slot (R21). -/
def unboundSlot : Slot :=
  { identifier := 0, enabled := false, primary := none, secondary := none, protect := false, heldMean := none,
    duplicates := 0, conflicts := 0, cells := Table.replicate 16 emptyCell }

/-- The pressure cells of a district after reset or purge (R40). -/
def emptyPressure : Table 16 (Option Nat) := Table.replicate 16 none

/-- The reset values of the eleven parameters (R63). -/
def resetParams : Params :=
  { properties := 0, allowance := 0, pRef := 400, n1 := .none, m := 1, tAbs := 0, tRel := 0, burst := 4,
    nConfirm := 3, gapLimit := 3, subLim := 25 }

/-- A district record after power-on reset (R62). -/
def resetDistrict : DistrictRecord :=
  { params := resetParams, inService := false, nightState := .idle, hold := none, heldPressure := none, result := none }

/-- A baseline record after power-on reset (R123). -/
def resetBaseline : Baseline := { ring := [], mode := .learned, rank := 2, fixed := 0 }

/-- A watch after power-on reset (R136). -/
def resetWatch : Watch := { state := .out, excess := 0, gap := 0, alert := .none }

/-- A free station position (R158). -/
def freeStation : Station :=
  { address := 0#4, role := none, subscription := 0#32, kindMask := 0#4, eventMask := 0#5, pendingSet := 0#32, flags := 0#5 }

/-- Position 0 after power-on reset, with its strapped address (R158). -/
def telemetryStation (strap : BitVec 4) : Station :=
  { address := strap, role := some .telemetry, subscription := 0xFFFFFFFF#32, kindMask := 0xF#4, eventMask := 0x1F#5,
    pendingSet := 0#32, flags := 0x01#5 }

/-- All nine device counters at 0 (R171, R173). -/
def zeroCounters : Counters := ⟨0, 0, 0, 0, 0, 0, 0, 0, 0⟩

/-- The Night Clock after power-on reset (R1). -/
def resetClock : NightClock :=
  { clock := ⟨0, 0⟩, divider := 0, clockSet := false, wstart := 8, wlen := 8, grace := 16, phase := .stopped,
    nightDay := none, nightMark := none }

/-- DN of the first frame after reset: GRANT 0000, position 0's attention bit set by POWER_UP, DV and DA 0, bit periods 18 to 31 at 1
(R158, R170, R176, R192). -/
def resetFrame : BitVec 32 := 0x08003FFF#32

/-- The SLI after power-on reset (R175). The send position is a DESIGN CHOICE (log 18). -/
def resetLink : Link :=
  { phase := .free, holder := none, recvStep := .first, sendStep := .offer, frames := 0, clearFrames := 0, recvBuf := [],
    overLength := false, answer := [], sendPos := 0, fairness := none, breakRun := 0, dn := resetFrame }

/-- Every block at its power-on reset value, with the strap sampled on ADDR3..ADDR0 (R1, R21, R38, R40, R62, R82, R123, R136, R158, R175). -/
def State.afterReset (strap : BitVec 4) : State :=
  { running := true
    nck := resetClock
    slots := Table.replicate 256 unboundSlot
    strays := []
    pressure := Table.replicate 32 emptyPressure
    districts := Table.replicate 32 resetDistrict
    queue := []
    flight := none
    choiceDue := false
    baselines := Table.replicate 32 resetBaseline
    watches := Table.replicate 32 resetWatch
    stations := ⟨[telemetryStation strap, freeStation, freeStation, freeStation], rfl⟩
    link := resetLink
    rqh := ⟨none, none⟩
    counters := zeroCounters
    pending := []
    freeCount := 0 }

/-- The part right after power-on reset, on a board strapped as `Config.boardStrap` says (DESIGN CHOICE, log 5), with no command waiting. -/
def State.reset : State := State.afterReset Config.boardStrap

end Sys2Proof.Machine
end

