-- ==== Sys2Proof/Machine/Ops.lean ====
section
/-!
DEFINITION. The named operations over the records of State that every block uses: clock times, saturating counters,
district, watch, station and slot updates, district sets, prompts.
-/

namespace Sys2Proof.Machine

/-- The outcome of an event of the part. It is taken only while RSTN is released: while RSTN is low the part keeps no state
and no event of it occurs (R176, log 12). -/
def taken (f : State → State) (s : State) : StepOutcome :=
  .next (if s.running then f s else s)

/-! ## Clock times (R1) -/

/-- `a` is earlier than `b`: compared by day, then by minute. -/
abbrev ClockTime.Before (a b : ClockTime) : Prop := a.day < b.day ∨ (a.day = b.day ∧ a.minute < b.minute)

/-- `a` is not later than `b`. -/
abbrev ClockTime.NotAfter (a b : ClockTime) : Prop := a.day < b.day ∨ (a.day = b.day ∧ a.minute ≤ b.minute)

/-- The clock time `m` minutes after `t`: each pass from minute 1,439 to minute 0 increases the day number by one. -/
def ClockTime.plus (t : ClockTime) (m : Nat) : ClockTime := ⟨t.day + (t.minute + m) / 1440, (t.minute + m) % 1440⟩

/-- Minutes since day 0 minute 0, each day counted as 1,440 minutes (R80). -/
def ClockTime.total (t : ClockTime) : Nat := t.day * 1440 + t.minute

/-- The last minute of the calendar (R2). -/
def lastMinute : ClockTime := ⟨65535, 1439⟩

/-- Interval `i` of day `d` has ended: the clock is at or later than the start of interval `i + 1` (R3). -/
abbrev State.IntervalEnded (s : State) (d i : Nat) : Prop := ClockTime.NotAfter (ClockTime.plus ⟨d, 0⟩ (15 * (i + 1))) s.nck.clock

/-- A night is in progress (section 1.4). -/
def State.nightInProgress (s : State) : Bool :=
  match s.nck.phase with
  | .collecting | .settling | .closing => true
  | .stopped | .daytime => false

/-! ## Saturation -/

/-- One more, stopping at `limit`. -/
def bump (limit n : Nat) : Nat := if n < limit then n + 1 else limit

/-- `x` limited to `lo..hi` (R102). -/
def clampInt (lo hi x : Int) : Int := if x < lo then lo else if hi < x then hi else x

/-! ## Records -/

/-- All district indices, in increasing order. -/
def allDistricts : List District := List.finRange 32

/-- All station positions, in increasing order. -/
def allPositions : List Position := List.finRange 4

/-- The district record `d` changed by `f`. -/
def State.modDistrict (s : State) (d : District) (f : DistrictRecord → DistrictRecord) : State :=
  { s with districts := s.districts.modify d f }

/-- The watch of district `d` changed by `f`. -/
def State.modWatch (s : State) (d : District) (f : Watch → Watch) : State :=
  { s with watches := s.watches.modify d f }

/-- The baseline record of district `d` changed by `f`. -/
def State.modBaseline (s : State) (d : District) (f : Baseline → Baseline) : State :=
  { s with baselines := s.baselines.modify d f }

/-- The station entry at `p` changed by `f`. -/
def State.modStation (s : State) (p : Position) (f : Station → Station) : State :=
  { s with stations := s.stations.modify p f }

/-- The meter slot `i` changed by `f`. -/
def State.modSlot (s : State) (i : SlotIndex) (f : Slot → Slot) : State :=
  { s with slots := s.slots.modify i f }

/-- The district record `d`. -/
def State.district (s : State) (d : District) : DistrictRecord := s.districts.get d

/-- The watch of district `d`. -/
def State.watch (s : State) (d : District) : Watch := s.watches.get d

/-- The baseline record of district `d`. -/
def State.baseline (s : State) (d : District) : Baseline := s.baselines.get d

/-- The station entry at `p`. -/
def State.station (s : State) (p : Position) : Station := s.stations.get p

/-- The meter slot `i`. -/
def State.slot (s : State) (i : SlotIndex) : Slot := s.slots.get i

/-- The night state of district `d` set to `n`. -/
def State.setNightState (s : State) (d : District) (n : NightState) : State :=
  s.modDistrict d (fun r => { r with nightState := n })

/-- The published result of district `d` replaced whole (R79). -/
def State.publish (s : State) (d : District) (r : Result) : State :=
  s.modDistrict d (fun x => { x with result := some r })

/-! ## District sets -/

/-- District `d` is a member. -/
def DistrictSet.has (x : DistrictSet) (d : District) : Bool := x.getLsbD d.1

/-- `x` with `d` added. -/
def DistrictSet.add (x : DistrictSet) (d : District) : DistrictSet := x ||| BitVec.twoPow 32 d.1

/-- `x` with `d` removed. -/
def DistrictSet.remove (x : DistrictSet) (d : District) : DistrictSet := x &&& ~~~ BitVec.twoPow 32 d.1

/-! ## Prompts (R85) -/

/-- The Evaluation Unit is prompted: while it is IDLE a choice becomes due, while an evaluation is in flight nothing happens. -/
def State.prompt (s : State) : State := if s.flight.isNone then { s with choiceDue := true } else s

/-! ## Bodies -/

/-- The district a body byte names, if it is 0..31. -/
def districtOf (b : Byte) : Option District := if h : b.toNat < 32 then some ⟨b.toNat, h⟩ else none

/-- The meter slot a body byte names. A byte never exceeds 255 (log 15). -/
def slotOf (b : Byte) : SlotIndex := ⟨b.toNat, b.isLt⟩

end Sys2Proof.Machine
end

