-- ==== Sys2Proof/Machine/Flags.lean ====
section
/-!
DEFINITION. The codes of enumerated fields (R194), the event flags of stations (R168) and the attention bits (R170).
-/

namespace Sys2Proof.Machine

/-! ## Codes of answers (R194) -/

/-- Night phase code. -/
def Phase.code : Phase → Byte
  | .stopped => 0 | .daytime => 1 | .collecting => 2 | .settling => 3 | .closing => 4

/-- Night state code. -/
def NightState.code : NightState → Byte
  | .idle => 0 | .opened => 1 | .queued => 2 | .evaluating => 3 | .done => 4 | .skipped => 5

/-- Watch state code. -/
def WatchState.code : WatchState → Byte
  | .out => 0 | .learning => 1 | .quiet => 2 | .watch => 3 | .alerted => 4 | .acknowledged => 5

/-- Alert code. -/
def Alert.code : Alert → Byte
  | .none => 0 | .rising => 1 | .burst => 2 | .dataLoss => 3 | .cleared => 4

/-- Result status code. -/
def ResultStatus.code : ResultStatus → Byte
  | .clean => 0 | .patched => 1 | .unusable => 2 | .skipped => 3

/-- Result reason code; an absent reason is 0. -/
def reasonCode : Option Reason → Byte
  | none => 0 | some .tooSparse => 1 | some .noHistory => 2 | some .noMeters => 3 | some .abandoned => 4

/-- Verdict code. -/
def Verdict.code : Verdict → Byte
  | .none => 0 | .normal => 1 | .excess => 2 | .burst => 3

/-- N1 code. -/
def Exponent.code : Exponent → Byte
  | .none => 0 | .half => 1 | .one => 2 | .oneHalf => 3

/-- The exponent an N1 byte names. -/
def Exponent.ofByte (b : Byte) : Option Exponent :=
  if b = 0 then some .none else if b = 1 then some .half else if b = 2 then some .one
  else if b = 3 then some .oneHalf else Option.none

/-- Baseline mode code. -/
def BaselineMode.code : BaselineMode → Byte
  | .learned => 0 | .fixed => 1

/-- The mode a mode byte names. -/
def BaselineMode.ofByte (b : Byte) : Option BaselineMode :=
  if b = 0 then some .learned else if b = 1 then some .fixed else none

/-- Cell state code. -/
def CellState.code : CellState → Nat
  | .empty => 0 | .good => 1 | .estimated => 2

/-- Queue reason code. -/
def QueueReason.code : QueueReason → Nat
  | .complete => 0 | .grace => 1

/-- Link role code. -/
def LinkRole.code : LinkRole → Nat
  | .inlet => 0 | .outlet => 1 | .user => 2

/-- The link role a two-bit code names; code 3 names none. -/
def LinkRole.ofCode (n : Nat) : Option LinkRole :=
  match n with
  | 0 => some .inlet | 1 => some .outlet | 2 => some .user | _ => none

/-- What a station role byte names: `some none` is the empty role, `none` is no code of the list. -/
def stationRoleOf (b : Byte) : Option (Option StationRole) :=
  if b = 0 then some none else if b = 1 then some (some .telemetry) else if b = 2 then some (some .gateway)
  else if b = 3 then some (some .pressure) else if b = 4 then some (some .service) else none

/-- Bit number of an alert kind in a kind mask; NONE has none. -/
def Alert.kindBit : Alert → Option Nat
  | .none => Option.none | .rising => some 0 | .burst => some 1 | .dataLoss => some 2 | .cleared => some 3

/-- Bit number of an event flag. -/
def EventFlag.bit : EventFlag → Nat
  | .powerUp => 0 | .nightClosed => 1 | .holdEnded => 2 | .linkFault => 3 | .configChanged => 4

/-- The flags of a result as a byte (R196). -/
def ResultFlags.code (f : ResultFlags) : Byte :=
  byte (f.uncorrected.toNat + 2 * f.pressureHeld.toNat + 4 * f.pressureClamped.toNat + 8 * f.figureClamped.toNat)

/-! ## Event flags (R168) -/

/-- One event flag as a set of flags. -/
def EventFlag.mask (f : EventFlag) : BitVec 5 := BitVec.twoPow 5 f.bit

/-- The position is occupied (R158). -/
def Station.occupied (st : Station) : Bool := st.role.isSome

/-- Flag `f` is raised at position `p`, if the position is occupied (R168).
A READ EVENTS answer of that position that has not completed no longer clears it (R169). -/
def State.raiseAt (f : EventFlag) (s : State) (p : Position) : State :=
  if (s.station p).occupied then
    { s.modStation p (fun st => { st with flags := st.flags ||| f.mask }) with
      rqh.events := s.rqh.events.map (fun n => if n.position = p then { n with flags := n.flags &&& ~~~ f.mask } else n) }
  else s

/-- Flag `f` is raised for every station (R158, R168). -/
def State.raiseAll (f : EventFlag) (s : State) : State := allPositions.foldl (State.raiseAt f) s

/-- CONFIG_CHANGED is raised for every station other than the requester (R168). -/
def State.configChanged (s : State) (requester : Position) : State :=
  (allPositions.filter (fun p => decide (p ≠ requester))).foldl (State.raiseAt .configChanged) s

/-! ## Attention (R170) -/

/-- The attention bit of a station entry: a pending notice, or a raised flag that its event mask holds. -/
def Station.attention (st : Station) : Bool :=
  decide (st.pendingSet ≠ 0#32) || decide (st.flags &&& st.eventMask ≠ 0#5)

/-- The attention bit of position `p`. -/
def State.attention (s : State) (p : Position) : Bool := (s.station p).attention

end Sys2Proof.Machine
end

