-- ==== Sys2Proof/Machine/Notices.lean ====
section
/-!
DEFINITION. Alert changes and pending sets (R141, R142, R164, R165, R167).
-/

namespace Sys2Proof.Machine

/-- District `d` is pending at some position. -/
def State.pendingSomewhere (s : State) (d : District) : Bool :=
  allPositions.any (fun p => (s.station p).pendingSet.has d)

/-- The kind of alert `a` is in the entry's kind mask. -/
def Station.wantsKind (st : Station) (a : Alert) : Bool :=
  match a.kindBit with
  | some k => st.kindMask.getLsbD k
  | none => false

/-- The entry after an alert change of district `d` to `a` (the table of R164). -/
def Station.afterAlert (d : District) (a : Alert) (st : Station) : Station :=
  if st.occupied && st.subscription.has d then
    if st.wantsKind a then { st with pendingSet := st.pendingSet.add d }
    else { st with pendingSet := st.pendingSet.remove d }
  else st

/-- The alert change of district `d` to `a` reaches every position (R164) and cancels a noted removal of `d` (R167). -/
def State.handOver (s : State) (d : District) (a : Alert) : State :=
  { s with
    stations := s.stations.map (Station.afterAlert d a)
    rqh.notice := s.rqh.notice.filter (fun n => decide (n.district ≠ d)) }

/-- The alert of district `d` set to `a`, with nothing handed over. -/
def State.setAlert (s : State) (d : District) (a : Alert) : State :=
  s.modWatch d (fun w => { w with alert := a })

/-- A CLEARED alert of `d` that no position holds pending becomes NONE, and that change is handed over (R142). -/
def State.endCleared (s : State) (d : District) : State :=
  if (s.watch d).alert = .cleared && !s.pendingSomewhere d then (s.setAlert d .none).handOver d .none else s

/-- The alert change of `d` handed over with the alert as it stands, and then R142 (R141, R164). -/
def State.alertChanged (s : State) (d : District) : State := (s.handOver d (s.watch d).alert).endCleared d

/-- Alert `a` is given to `d` by a request; only a change is handed over (R141). -/
def State.changeAlert (s : State) (d : District) (a : Alert) : State :=
  if (s.watch d).alert = a then s else (s.setAlert d a).alertChanged d

/-- District `d` leaves the pending set of position `p`. -/
def State.dropPending (s : State) (p : Position) (d : District) : State :=
  s.modStation p (fun st => { st with pendingSet := st.pendingSet.remove d })

/-- District `d` leaves every pending set (R165). -/
def State.dropPendingAll (s : State) (d : District) : State :=
  { s with stations := s.stations.map (fun st => { st with pendingSet := st.pendingSet.remove d }) }

end Sys2Proof.Machine
end

