-- ==== Sys2Proof/Machine/LeakWatch.lean ====
section
/-!
DEFINITION. Applying a result to the Leak Watch (section 8.4).
-/

namespace Sys2Proof.Machine

/-- The watch after an UNUSABLE or SKIPPED result (R144). -/
def Watch.afterGap (gapLimit : Nat) (w : Watch) : Watch :=
  let g := bump 255 w.gap
  { w with gap := g
           alert := if gapLimit ≤ g then (match w.alert with | .none | .cleared => .dataLoss | a => a) else w.alert }

/-- DATA_LOSS becomes CLEARED on a usable result (R145, R146). -/
def Alert.afterUsable : Alert → Alert
  | .dataLoss => .cleared
  | a => a

/-- The watch after a usable result with verdict NONE (R145). -/
def Watch.afterNone (w : Watch) : Watch :=
  match w.state with
  | .quiet | .watch => { state := .learning, excess := 0, gap := 0, alert := w.alert.afterUsable }
  | _ => { w with gap := 0, alert := w.alert.afterUsable }

/-- The changes every judged result makes before its verdict is applied (R146). -/
def Watch.beforeVerdict (w : Watch) : Watch :=
  match w.state with
  | .learning => { state := .quiet, excess := 0, gap := 0, alert := w.alert.afterUsable }
  | _ => { w with gap := 0, alert := w.alert.afterUsable }

/-- The watch after a BURST verdict (R147). No result reaches an OUT watch (R143). -/
def Watch.afterBurst (nConfirm : Nat) (w : Watch) : Watch :=
  match w.state with
  | .out => w
  | _ => { w with state := .alerted, excess := nConfirm, alert := .burst }

/-- The watch after an EXCESS verdict (R148). -/
def Watch.afterExcess (nConfirm : Nat) (w : Watch) : Watch :=
  let e := if nConfirm < w.excess + 1 then nConfirm else w.excess + 1
  match w.state with
  | .quiet | .watch =>
    if nConfirm ≤ e then { w with state := .alerted, excess := e, alert := .rising }
    else { w with state := .watch, excess := e }
  | .out => w
  | _ => { w with excess := e }

/-- The watch after a NORMAL verdict (R149). -/
def Watch.afterNormal (w : Watch) : Watch :=
  let e := w.excess - 1
  match w.state with
  | .watch => { w with state := if e = 0 then .quiet else .watch, excess := e }
  | .alerted => if e = 0 then { w with state := .quiet, excess := e, alert := .cleared } else { w with excess := e }
  | .out => w
  | _ => { w with excess := e }

/-- The watch after a result with this status and verdict, under the district's N_confirm and gap limit (R143). -/
def Watch.after (p : Params) (status : ResultStatus) (verdict : Verdict) (w : Watch) : Watch :=
  match status with
  | .unusable | .skipped => w.afterGap p.gapLimit
  | .clean | .patched =>
    match verdict with
    | .none => w.afterNone
    | .normal => w.beforeVerdict.afterNormal
    | .excess => w.beforeVerdict.afterExcess p.nConfirm
    | .burst => w.beforeVerdict.afterBurst p.nConfirm

/-- An application from `w` to `w'` hands over an alert change (R141). -/
def alertHanded (w w' : Watch) : Bool :=
  decide (w'.alert ≠ w.alert) || (decide (w'.state = .alerted) && decide (w.state ≠ .alerted))

/-- A published result is applied to the watch of district `d`, whole, with any alert change handed over (R143, R141). -/
def State.applyResult (s : State) (d : District) (status : ResultStatus) (verdict : Verdict) : State :=
  let w := s.watch d
  let w' := w.after (s.district d).params status verdict
  let s' := s.modWatch d (fun _ => w')
  if alertHanded w w' then s'.alertChanged d else s'

/-- A SKIPPED result of night `n` is published for `d` and applied to the watch; it is not offered to the Baseline Store (R6, R7, R81, R100). -/
def State.publishSkipped (s : State) (d : District) (n : Nat) (why : Reason) : State :=
  ((s.setNightState d .skipped).publish d
    { nightDay := n, status := .skipped, reason := some why, flags := ⟨false, false, false, false⟩, slotsUsed := 0,
      cellsSubstituted := 0, figures := none, verdict := .none }).applyResult d .skipped .none

end Sys2Proof.Machine
end

