-- ==== Sys2Proof/Machine/Store.lean ====
section
/-!
DEFINITION. The Baseline Store: baseline B, learning and the readiness re-judge (R125 to R127, R133).
-/

namespace Sys2Proof.Machine

/-- The figures of a ring in order of size; equal figures take separate ranks (R125). -/
def Baseline.ranked (bl : Baseline) : List Int := (bl.ring.map (·.figure)).insertionSort (· ≤ ·)

/-- Baseline B: the fixed value in FIXED mode, the k-th smallest figure in LEARNED mode if the ring holds k or more (R125). -/
def Baseline.b (bl : Baseline) : Option Int :=
  match bl.mode with
  | .fixed => some (bl.fixed : Int)
  | .learned => if 1 ≤ bl.rank then bl.ranked[bl.rank - 1]? else none

/-- The learning gate (R126). -/
def learns (r : Result) (stage : WatchState) (ring : List RingEntry) : Bool :=
  decide (r.status = .clean) &&
  (decide (r.verdict = .normal) || decide (r.verdict = .none)) &&
  (decide (stage = .learning) || decide (stage = .quiet) || decide (stage = .watch)) &&
  (match ring.getLast? with
   | none => true
   | some newest => decide (newest.nightDay < r.nightDay))

/-- The ring with one more entry; a ring of 8 loses its oldest first (R127). -/
def ringAppend (ring : List RingEntry) (e : RingEntry) : List RingEntry :=
  (if ring.length < 8 then ring else ring.drop 1) ++ [e]

/-- The result is offered to the Baseline Store (R90, R126, R127). -/
def State.offer (s : State) (d : District) (r : Result) : State :=
  match r.figures with
  | some fig =>
    if learns r (s.watch d).state (s.baseline d).ring then
      s.modBaseline d (fun bl => { bl with ring := ringAppend bl.ring ⟨r.nightDay, fig.c⟩ })
    else s
  | none => s

/-- The watch after the readiness re-judge, B being present or not (R133). -/
def Watch.rejudge (ready : Bool) (w : Watch) : Watch :=
  match w.state with
  | .quiet | .watch => if ready then w else { w with state := .learning, excess := 0 }
  | .learning => if ready then { w with state := .quiet } else w
  | _ => w

/-- The readiness re-judge of district `d` after a baseline request (R133). -/
def State.rejudge (s : State) (d : District) : State :=
  s.modWatch d (Watch.rejudge (s.baseline d).b.isSome)

end Sys2Proof.Machine
end

