-- ==== Sys2Proof/Machine/Grid.lean ====
section
/-!
DEFINITION. The Reading Grid's own events: completion check and purge (R54, R59, R60), with the queue's append (R83)
and the Meter Directory's question about enabled linked slots (R22).
-/

namespace Sys2Proof.Machine

/-- A cell is filled (R38). -/
def Cell.filled (c : Cell) : Bool := decide (c.state ≠ .empty)

/-- The role of the slot's link that names district `d`, if one does (R22, R87). -/
def Slot.roleFor (sl : Slot) (d : District) : Option LinkRole :=
  match sl.primary with
  | some l => if l.district = d then some l.role else
      (match sl.secondary with
       | some m => if m.district = d then some m.role else none
       | none => none)
  | none =>
      match sl.secondary with
      | some m => if m.district = d then some m.role else none
      | none => none

/-- The slot is linked to district `d` (R22). -/
def Slot.linkedTo (sl : Slot) (d : District) : Bool := (sl.roleFor d).isSome

/-- The enabled slots linked to district `d`, in increasing order of slot index (R22). -/
def State.enabledLinked (s : State) (d : District) : List Slot :=
  s.slots.1.filter (fun sl => sl.enabled && sl.linkedTo d)

/-- District `d` is complete (R54). -/
def State.complete (s : State) (d : District) : Bool :=
  (s.enabledLinked d).all (fun sl => (sl.cells.1.take s.nck.wlen).all Cell.filled)

/-- District `d` becomes QUEUED and joins the queue as its newest entry; the Evaluation Unit is prompted (R83, R85). -/
def State.enqueue (s : State) (d : District) (why : QueueReason) : State :=
  State.prompt { s.setNightState d .queued with queue := s.queue ++ [⟨d, why⟩] }

/-- The completion check of district `d` (R54). -/
def State.completionCheck (s : State) (d : District) : State :=
  if decide ((s.district d).nightState = .opened) && s.complete d then s.enqueue d .complete else s

/-- The volumes of the filled cells of a list. -/
def filledVolumes (cells : List Cell) : List Nat := (cells.filter Cell.filled).map (·.volume)

/-- The mean of the filled cells, rounded down; none if no cell is filled (R59, R96). -/
def filledMean (cells : List Cell) : Option Nat :=
  if filledVolumes cells = [] then none
  else some ((filledVolumes cells).sum / (filledVolumes cells).length)

/-- A slot after the held-mean update and the emptying of its cells (R59, R60). -/
def Slot.purged (sl : Slot) : Slot :=
  { sl with
    heldMean := match filledMean sl.cells.1 with
      | some m => some m
      | none => sl.heldMean
    cells := Table.replicate 16 emptyCell }

/-- The purge (R60). -/
def State.purge (s : State) : State :=
  { s with slots := s.slots.map Slot.purged, pressure := Table.replicate 32 emptyPressure }

end Sys2Proof.Machine
end

