-- ==== Sys2Proof/Machine/Arithmetic.lean ====
section
/-!
DEFINITION. Substitution, usability and pressure (sections 5.7 to 5.9) and the night-flow arithmetic (chapter 6):
from a snapshot to a result. Every division has a positive divisor, so `/` rounds toward minus infinity (R102).
-/

namespace Sys2Proof.Machine

/-! ## Substitution (R96) -/

/-- The substitute of a slot's EMPTY cells: the own-night mean, else the held mean, else none (R96). -/
def SnapshotSlot.substitute (sl : SnapshotSlot) : Option Nat :=
  match filledMean sl.cells with
  | some m => some m
  | none => sl.heldMean

/-- The contribution of the slot for index `k` (R103). -/
def SnapshotSlot.contribution (sl : SnapshotSlot) (k : Nat) : Nat :=
  let c := sl.cells.getD k emptyCell
  if c.filled then c.volume else sl.substitute.getD 0

/-- The number of substituted cells s (R96). -/
def Snapshot.substituted (sn : Snapshot) : Nat :=
  (sn.slots.map (fun sl => (sl.cells.filter (fun c => !c.filled)).length)).sum

/-- The number of cells c (R96). -/
def Snapshot.cellCount (sn : Snapshot) : Nat := sn.slots.length * sn.wlen

/-- The reason an evaluation is UNUSABLE, if it is (R95, R97). -/
def Snapshot.unusable (sn : Snapshot) : Option Reason :=
  if sn.slots = [] then some .noMeters
  else if sn.slots.any (fun sl => sl.substitute.isNone) then some .noHistory
  else if sn.cellCount * sn.params.subLim < sn.substituted * 100 then some .tooSparse
  else none

/-! ## Pressure (R98, R110 to R112) -/

/-- The cell pressure: the mean of the filled pressure cells, none if none is filled (R98). -/
def Snapshot.cellPressure (sn : Snapshot) : Option Nat :=
  let filled := sn.pressure.filterMap id
  if filled = [] then none else some (filled.sum / filled.length)

/-- The pressure the arithmetic corrects to (R98). -/
def Snapshot.pressureUsed (sn : Snapshot) : Option Nat :=
  match sn.params.n1 with
  | .none => none
  | _ => match sn.cellPressure with
    | some p => some p
    | none => sn.heldPressure

/-- PRESSURE_HELD (R98). -/
def Snapshot.usesHeld (sn : Snapshot) : Bool :=
  decide (sn.params.n1 ≠ .none) && sn.cellPressure.isNone && sn.heldPressure.isSome

/-- UNCORRECTED (R98). -/
def Snapshot.uncorrected (sn : Snapshot) : Bool :=
  decide (sn.params.n1 ≠ .none) && sn.cellPressure.isNone && sn.heldPressure.isNone

/-- The pressure ratio Q and PRESSURE_CLAMPED (R110). -/
def pressureRatio (pRef p : Nat) : Nat × Bool :=
  if p = 0 then (262144, true)
  else
    let u := pRef * 65536 / p
    if u < 16384 then (16384, true) else if 262144 < u then (262144, true) else (u, false)

/-- The bits of a square root tried from the highest down: `r` grows while its square does not exceed `n`. -/
def isqrtFrom : Nat → Nat → Nat → Nat
  | 0, r, _ => r
  | i + 1, r, n => isqrtFrom i (if (r + 2 ^ i) * (r + 2 ^ i) ≤ n then r + 2 ^ i else r) n

/-- The integer square root: the largest integer whose square does not exceed `n` (R111). -/
def isqrt (n : Nat) : Nat := isqrtFrom (Nat.log2 n / 2 + 1) 0 n

/-- The pressure factor F for a ratio Q (R112). -/
def pressureFactor (n1 : Exponent) (q : Nat) : Nat :=
  match n1 with
  | .none => 65536
  | .half => isqrt (q * 65536)
  | .one => q
  | .oneHalf => q * isqrt (q * 65536) / 65536

/-- F and PRESSURE_CLAMPED of the snapshot (R110, R112): with no pressure used no ratio is formed. -/
def Snapshot.factor (sn : Snapshot) : Nat × Bool :=
  match sn.pressureUsed with
  | none => (65536, false)
  | some p => let q := pressureRatio sn.params.pRef p
              (pressureFactor sn.params.n1 q.1, q.2)

/-! ## Net flow and night minimum (R103 to R109) -/

/-- The sum of the contributions at `k` of the slots with role `r`. -/
def Snapshot.roleSum (sn : Snapshot) (r : LinkRole) (k : Nat) : Nat :=
  ((sn.slots.filter (fun sl => decide (sl.role = r))).map (fun sl => sl.contribution k)).sum

/-- The inflow I_k (R104). -/
def Snapshot.inflow (sn : Snapshot) (k : Nat) : Int := (sn.roleSum .inlet k : Int) - (sn.roleSum .outlet k : Int)

/-- The allowance A (R106). -/
def Params.allowanceLitres (p : Params) : Nat := p.properties * p.allowance / 100

/-- The net flow N_k (R105, R107). -/
def Snapshot.netFlow (sn : Snapshot) (k : Nat) : Int :=
  sn.inflow k - (sn.roleSum .user k : Int) - (sn.params.allowanceLitres : Int)

/-- The smoothed mean of start index `j` (R108). -/
def Snapshot.smoothed (sn : Snapshot) (j : Nat) : Int :=
  ((List.range sn.params.m).map (fun i => sn.netFlow (j + i))).sum / (sn.params.m : Int)

/-- The smoothed means for j = 0..L-M (R108). -/
def Snapshot.means (sn : Snapshot) : List Int :=
  (List.range (sn.wlen - sn.params.m + 1)).map sn.smoothed

/-- The night flow NF: the smallest smoothed mean (R109). -/
def Snapshot.nightFlow (sn : Snapshot) : Int := (sn.means.min?).getD 0

/-- The minimum index: the earliest start whose smoothed mean is NF (R109). -/
def Snapshot.minIndex (sn : Snapshot) : Nat := sn.means.idxOf sn.nightFlow

/-! ## Corrected figure, comparison, verdict (R114 to R119) -/

/-- The lower limit of a signed 32-bit figure (R102). -/
def int32Min : Int := -2147483648

/-- The upper limit of a signed 32-bit figure (R102). -/
def int32Max : Int := 2147483647

/-- C before saturation (R114). -/
def Snapshot.correctedRaw (sn : Snapshot) : Int := sn.nightFlow * (sn.factor.1 : Int) / 65536

/-- The corrected figure C (R114). -/
def Snapshot.corrected (sn : Snapshot) : Int := clampInt int32Min int32Max sn.correctedRaw

/-- The threshold T (R117). -/
def threshold (p : Params) (b : Int) : Int := (p.tAbs : Int) + max b 0 * (p.tRel : Int) / 256

/-- The burst threshold TB (R118). -/
def burstThreshold (p : Params) (t : Int) : Int := min (t * (p.burst : Int)) int32Max

/-- The verdict (R119). -/
def verdictOf (x t tb : Int) : Verdict := if tb < x then .burst else if t < x then .excess else .normal

/-- B, T and X against a baseline (R116, R117). -/
def Snapshot.compare (sn : Snapshot) (b : Int) : Comparison :=
  { b := b, t := threshold sn.params b, x := clampInt int32Min int32Max (sn.corrected - b) }

/-- FIGURE_CLAMPED: C or X was saturated (R114, R116, R120). -/
def Snapshot.figureClamped (sn : Snapshot) : Bool :=
  decide (sn.corrected ≠ sn.correctedRaw) ||
  (match sn.baseline with
   | some b => decide ((sn.compare b).x ≠ sn.corrected - b)
   | none => false)

/-- The verdict of the snapshot: NONE without a baseline (R115, R119). -/
def Snapshot.verdict (sn : Snapshot) : Verdict :=
  match sn.baseline with
  | none => .none
  | some b => verdictOf (sn.compare b).x (sn.compare b).t (burstThreshold sn.params (sn.compare b).t)

/-- The figures of a usable result (R121). -/
def Snapshot.figures (sn : Snapshot) : Figures :=
  { nf := sn.nightFlow
    minInterval := sn.wstart + sn.minIndex
    pUsed := sn.pressureUsed
    f := sn.factor.1
    c := sn.corrected
    compared := sn.baseline.map sn.compare }

/-- The flags of a usable result (R120). -/
def Snapshot.flags (sn : Snapshot) : ResultFlags :=
  { uncorrected := sn.uncorrected, pressureHeld := sn.usesHeld, pressureClamped := sn.factor.2,
    figureClamped := sn.figureClamped }

/-- The result of the evaluation (R89 step 1, R95, R97, R100, R121). -/
def Snapshot.result (sn : Snapshot) : Result :=
  match sn.unusable with
  | some why =>
    { nightDay := sn.nightDay, status := .unusable, reason := some why, flags := ⟨false, false, false, false⟩,
      slotsUsed := sn.slots.length, cellsSubstituted := sn.substituted, figures := none, verdict := .none }
  | none =>
    { nightDay := sn.nightDay
      status := if decide (0 < sn.substituted) || sn.usesHeld || sn.uncorrected then .patched else .clean
      reason := none, flags := sn.flags
      slotsUsed := sn.slots.length, cellsSubstituted := sn.substituted, figures := some sn.figures, verdict := sn.verdict }

end Sys2Proof.Machine
end

