-- ==== Sys2Proof/Machine/Evaluation.lean ====
section
/-!
DEFINITION. The Evaluation Unit's events: choice, begin, completion (R86, R87, R89), and the night-end test that follows
a completion (R10).
-/

namespace Sys2Proof.Machine

/-- A district whose night is still open keeps the night from ending (R10). -/
def NightState.keepsNightOpen (n : NightState) : Bool :=
  match n with
  | .opened | .queued | .evaluating => true
  | .idle | .done | .skipped => false

/-- The night-end test (R10). -/
def State.nightEndTest (s : State) : State :=
  if (decide (s.nck.phase = .settling) || decide (s.nck.phase = .closing)) &&
      !(s.districts.1.any (fun r => r.nightState.keepsNightOpen)) then
    State.raiseAll .nightClosed { s with nck.phase := .daytime }
  else s

/-- The queue entry a choice takes: the oldest whose district is not held (R86). -/
def State.chosen (s : State) : Option QueueEntry :=
  s.queue.find? (fun e => (s.district e.district).hold.isNone)

/-- The snapshot of district `d` (R87). A queued district always has a current night day; the value 0 without one is never used (log 16). -/
def State.snapshot (s : State) (d : District) : Snapshot :=
  { nightDay := s.nck.nightDay.getD 0
    wstart := s.nck.wstart
    wlen := s.nck.wlen
    params := (s.district d).params
    slots := s.slots.1.filterMap (fun sl =>
      if sl.enabled then (sl.roleFor d).map (fun r => ⟨r, sl.cells.1.take s.nck.wlen, sl.heldMean⟩) else none)
    pressure := (s.pressure.get d).1.take s.nck.wlen
    heldPressure := (s.district d).heldPressure
    baseline := (s.baseline d).b }

/-- The evaluation of an entry's district begins (R87). -/
def State.beginEvaluation (s : State) (e : QueueEntry) : State :=
  { s.setNightState e.district .evaluating with
    queue := s.queue.filter (fun x => decide (x.district ≠ e.district))
    flight := some ⟨e.district, s.snapshot e.district⟩ }

/-- The choice (R86): taken when it is due, by the unit while it is IDLE. -/
def State.choose (s : State) : State :=
  if s.choiceDue && s.flight.isNone then
    match s.chosen with
    | some e => ({ s with choiceDue := false } : State).beginEvaluation e
    | none => { s with choiceDue := false }
  else s

/-- Steps 2 to 5 of the completion for a computed result (R89, R90, R99). -/
def State.settleResult (s : State) (d : District) (cellPressure : Option Nat) (r : Result) : State :=
  let s1 := s.modDistrict d (fun x =>
    { x with heldPressure := (match cellPressure with
                              | some p => some p
                              | none => x.heldPressure)
             result := some r
             nightState := .done })
  let s2 := { s1 with flight := none }
  (s2.offer d r).applyResult d r.status r.verdict

/-- The completion of the evaluation in flight (R89). -/
def State.completeEvaluation (s : State) : State :=
  match s.flight with
  | some f => ((s.settleResult f.district f.snapshot.cellPressure f.snapshot.result).nightEndTest).prompt
  | none => s

end Sys2Proof.Machine
end

