-- ==== Sys2Proof/Machine/Night.lean ====
section
/-!
DEFINITION. Boundary times and boundary events of the night, hold expiry, and the events of a span of clock time
(R4 to R10, R12, R18).
-/

namespace Sys2Proof.Machine

/-! ## Boundary times (R4) -/

/-- Window start of night `n`. -/
def State.windowStartOf (s : State) (n : Nat) : ClockTime := ⟨n, 15 * s.nck.wstart⟩

/-- Window end of night `n`. -/
def State.windowEndOf (s : State) (n : Nat) : ClockTime := (s.windowStartOf n).plus (15 * s.nck.wlen)

/-- Grace expiry of night `n`. -/
def State.graceExpiryOf (s : State) (n : Nat) : ClockTime := (s.windowEndOf n).plus (15 * s.nck.grace)

/-- The window start of night `n` is eligible (R4). -/
def State.eligible (s : State) (n : Nat) : Bool :=
  (match s.nck.nightDay with
   | none => true
   | some m => decide (m < n)) && decide (ClockTime.NotAfter (s.graceExpiryOf n) lastMinute)

/-! ## Opening and abandoning a night (R6, R7) -/

/-- The night state of district `d` in the night `n` that opens (R6 action 3). -/
def State.assignNight (n : Nat) (s : State) (d : District) : State :=
  if (s.district d).inService then
    if s.enabledLinked d ≠ [] then s.setNightState d .opened else s.publishSkipped d n .noMeters
  else s.setNightState d .idle

/-- Night `n` is opened (R6). -/
def State.openNight (s : State) (n : Nat) : State :=
  let s' := allDistricts.foldl (State.assignNight n) s.purge
  { s' with nck.phase := .collecting, nck.nightDay := some n, nck.nightMark := some (s'.graceExpiryOf n) }

/-- An OPEN or QUEUED district of the old night `m` becomes SKIPPED (R7 action 2). -/
def State.abandonWaiting (m : Nat) (s : State) (d : District) : State :=
  match (s.district d).nightState with
  | .opened | .queued => s.publishSkipped d m .abandoned
  | _ => s

/-- The evaluation in flight is abandoned for night `m` (R7 action 1, R93). -/
def State.abandonFlight (s : State) (m : Nat) : State :=
  match s.flight with
  | some f => State.publishSkipped { s with flight := none } f.district m .abandoned
  | none => s

/-- The old night is abandoned (R7 actions 1 to 4, R93). The current night day is present in CLOSING; the value 0 without one is never used (log 16). -/
def State.abandonNight (s : State) : State :=
  let m := s.nck.nightDay.getD 0
  let s1 := allDistricts.foldl (State.abandonWaiting m) (s.abandonFlight m)
  State.raiseAll .nightClosed { s1 with queue := [], choiceDue := false }

/-- The window start of night `n` at the moment its time is reached, by the phase (R5): R6 in DAYTIME, R7 in CLOSING. -/
def State.reachWindowStart (s : State) (n : Nat) : State :=
  match s.nck.phase with
  | .daytime => s.openNight n
  | .closing => s.abandonNight.openNight n
  | .stopped | .collecting | .settling => s

/-! ## Window end and grace expiry (R8, R9) -/

/-- A district that is still OPEN is queued with reason GRACE (R9). -/
def State.queueByGrace (s : State) (d : District) : State :=
  if (s.district d).nightState = .opened then s.enqueue d .grace else s

/-- The grace expiry taken: every OPEN district queued, CLOSING, night-end test (R9, R16). -/
def State.closeByGrace (s : State) : State :=
  let s' := allDistricts.foldl State.queueByGrace s
  State.nightEndTest { s' with nck.phase := .closing }

/-- The grace expiry of the current night at the moment its time is reached (R5, R9). -/
def State.reachGraceExpiry (s : State) : State :=
  if s.nck.phase = .settling then s.closeByGrace else s

/-- The window end of the current night at the moment its time is reached (R5, R8).
With GRACE 0 the grace expiry is taken next in the same event. -/
def State.reachWindowEnd (s : State) : State :=
  if s.nck.phase = .collecting then
    let s' := (allDistricts.foldl State.completionCheck { s with nck.phase := .settling }).nightEndTest
    if s.nck.grace = 0 then s'.reachGraceExpiry else s'
  else s

/-! ## Holds (R18, R72) -/

/-- The edit hold of district `d` removed. -/
def State.removeHold (s : State) (d : District) : State := s.modDistrict d (fun r => { r with hold := none })

/-- A hold expiry: the hold is removed, HOLD_ENDED is raised for the holder, the Evaluation Unit is prompted (R18). -/
def State.expireHold (s : State) (d : District) : State :=
  match (s.district d).hold with
  | some h => ((s.removeHold d).raiseAt .holdEnded h.holder).prompt
  | none => s

/-! ## The events of a span of clock time (R2, R12, R18) -/

/-- An event the Night Clock takes at a clock time. -/
inductive ClockEvent
  | windowStart (n : Nat)
  | windowEnd
  | graceExpiry
  | holdExpiry (d : District)
  deriving DecidableEq, Repr

/-- `t` falls after `t0` and not later than `t1`. -/
def inSpan (t0 t1 t : ClockTime) : Bool := decide (ClockTime.Before t0 t) && decide (ClockTime.NotAfter t t1)

/-- The latest eligible window start after `t0`, at or before night day `n` (R12): the search goes down from `n`
and stops at the first window start that does not fall after `t0`. -/
def State.latestStart (s : State) (t0 t1 : ClockTime) : Nat → Option Nat
  | 0 => if inSpan t0 t1 (s.windowStartOf 0) && s.eligible 0 then some 0 else none
  | n + 1 =>
    if ClockTime.Before t0 (s.windowStartOf (n + 1)) then
      if inSpan t0 t1 (s.windowStartOf (n + 1)) && s.eligible (n + 1) then some (n + 1) else s.latestStart t0 t1 n
    else none

/-- Window end and grace expiry of night `n`, with their times. With GRACE 0 the window end takes the grace expiry with it (R8). -/
def State.closingEvents (s : State) (n : Nat) : List (ClockTime × ClockEvent) :=
  if s.nck.grace = 0 then [(s.windowEndOf n, .windowEnd)]
  else [(s.windowEndOf n, .windowEnd), (s.graceExpiryOf n, .graceExpiry)]

/-- Window end and grace expiry of the night in progress, if one is (R12 point 1). -/
def State.currentNightEvents (s : State) : List (ClockTime × ClockEvent) :=
  if s.nightInProgress then s.closingEvents (s.nck.nightDay.getD 0) else []

/-- The latest eligible window start of the span, with the window end and grace expiry of the night it opens (R12 points 2 and 3). -/
def State.nextNightEvents (s : State) (t0 t1 : ClockTime) : List (ClockTime × ClockEvent) :=
  match s.latestStart t0 t1 t1.day with
  | some n => (s.windowStartOf n, .windowStart n) :: s.closingEvents n
  | none => []

/-- The expiries of the edit holds, with their times (R12 point 4, R18). -/
def State.holdEvents (s : State) : List (ClockTime × ClockEvent) :=
  allDistricts.filterMap (fun d => (s.district d).hold.map (fun h => (h.expiry, .holdExpiry d)))

/-- The events that fall after `t0` and not later than `t1` (R2, R12, R18). -/
def State.agenda (s : State) (t0 t1 : ClockTime) : List (ClockTime × ClockEvent) :=
  (s.currentNightEvents ++ s.nextNightEvents t0 t1 ++ s.holdEvents).filter (fun e => inSpan t0 t1 e.1)

/-- The effect of a clock event at the moment its time is reached. -/
def State.reach (s : State) (e : ClockEvent) : State :=
  match e with
  | .windowStart n => s.reachWindowStart n
  | .windowEnd => s.reachWindowEnd
  | .graceExpiry => s.reachGraceExpiry
  | .holdExpiry d => s.expireHold d

/-- The effect of a clock event inside a forward SET TIME: a choice that the event made due is taken directly after it (R85, R12).
A choice that was due before stays due (log 10). -/
def State.reachInJump (s : State) (e : ClockEvent) : State :=
  if !s.choiceDue && (s.reach e).choiceDue then (s.reach e).choose else s.reach e

/-- The events of the agenda that no other precedes in time. -/
def firstEvents (l : List (ClockTime × ClockEvent)) : List (ClockTime × ClockEvent) :=
  l.filter (fun e => l.all (fun x => decide (ClockTime.NotAfter e.1 x.1)))

/-- The agenda taken in order of time. Events at one time are taken in an order the manual leaves open (R18):
each time it is open the next one is picked by `Config.tiePick` at `freeCount` (log 9). -/
def State.runAgenda (take : State → ClockEvent → State) : Nat → List (ClockTime × ClockEvent) → State → State
  | 0, _, s => s
  | fuel + 1, l, s =>
    match firstEvents l with
    | [] => s
    | [e] => State.runAgenda take fuel (l.erase e) (take s e.2)
    | e :: es =>
      let picked := (e :: es).getD (Config.tiePick s.freeCount % (es.length + 1)) e
      State.runAgenda take fuel (l.erase picked) (take { s with freeCount := s.freeCount + 1 } picked.2)

/-- Every event of the span from after `t0` to `t1`, taken with `take`. -/
def State.takeSpan (s : State) (take : State → ClockEvent → State) (t0 t1 : ClockTime) : State :=
  State.runAgenda take (s.agenda t0 t1).length (s.agenda t0 t1) s

/-! ## Minute event (R2) -/

/-- The minute event: the clock advances by one minute and takes what falls at the new time.
While the clock is not set none occurs; at the end of the calendar the clock halts. -/
def State.minuteEvent (s : State) : State :=
  if s.nck.clockSet then
    if s.nck.clock = lastMinute then { s with nck.divider := 0 }
    else
      let t1 := s.nck.clock.plus 1
      State.takeSpan { s with nck.divider := 0, nck.clock := t1 } State.reach s.nck.clock t1
  else s

/-- One period of the 32.768 kHz crystal (R2): while the clock is set the divider counts it, and at 1,966,080 periods takes the minute event.
While the clock is not set the divider is held at 0. -/
def State.crystalPeriod (s : State) : State :=
  if s.running && s.nck.clockSet then
    if s.nck.divider + 1 < 1966080 then { s with nck.divider := s.nck.divider + 1 } else s.minuteEvent
  else s

end Sys2Proof.Machine
end

