-- ==== Sys2Proof/Machine/Operands.lean ====
section
/-!
DEFINITION. The fields of request bodies, read byte by byte from the layouts of section 10.7 (R185, R191, R195, R198),
and the body an answer carries. A reader answers none for a body whose size is not the one the layout gives (R184).
-/

namespace Sys2Proof.Machine

/-- What the Request Handler answers: a status and a body, empty for every status but OK (R184). -/
structure Reply where
  status : Status
  body : List Byte
  deriving DecidableEq, Repr

/-- A request refused: no state changes. -/
def refuse (s : State) (st : Status) : State × Reply := (s, ⟨st, []⟩)

/-- A request answered OK. -/
def accept (s : State) (body : List Byte) : State × Reply := (s, ⟨.ok, body⟩)

/-! ## Links (R194, R198) -/

/-- A link byte: none when bit 7 is clear, else the two-bit role code and the district. -/
def linkField (b : Byte) : Option (Nat × District) :=
  if b.msb then some (b.toNat / 32 % 4, ⟨b.toNat % 32, Nat.mod_lt _ (by decide)⟩) else none

/-- The link a link field asks for; none where its role code names no role. -/
def resolveLink (f : Option (Nat × District)) : Option (Option MeterLink) :=
  match f with
  | none => some none
  | some (c, d) => (LinkRole.ofCode c).map (fun r => some ⟨d, r⟩)

/-- A link as a byte; an absent link is 0 (R191, R194). -/
def linkByte (l : Option MeterLink) : Byte :=
  match l with
  | none => 0
  | some l => byte (128 + 32 * l.role.code + l.district.1)

/-! ## Request bodies (R198) -/

/-- SET TIME: day number and minute of day. -/
def readSetTime : List Byte → Option ClockTime
  | [d1, d0, m1, m0] => some ⟨word16 d1 d0, word16 m1 m0⟩
  | _ => none

/-- The fields of SET WINDOW. -/
structure WindowFields where
  wstart : Nat
  wlen : Nat
  grace : Nat
  deriving DecidableEq, Repr

/-- SET WINDOW. -/
def readSetWindow : List Byte → Option WindowFields
  | [a, b, c] => some ⟨a.toNat, b.toNat, c.toNat⟩
  | _ => none

/-- A body of one byte. -/
def readOne : List Byte → Option Byte
  | [b] => some b
  | _ => none

/-- The fields of BIND METER. -/
structure BindFields where
  slot : SlotIndex
  identifier : Nat
  primary : Option (Nat × District)
  secondary : Option (Nat × District)
  protect : Bool
  deriving DecidableEq, Repr

/-- BIND METER. -/
def readBind : List Byte → Option BindFields
  | [sl, i3, i2, i1, i0, p, q, r] => some ⟨slotOf sl, word32 i3 i2 i1 i0, linkField p, linkField q, r.getLsbD 0⟩
  | _ => none

/-- The fields of POST PRESSURE. -/
structure PressureFields where
  district : Byte
  day : Nat
  interval : Nat
  value : Nat
  deriving DecidableEq, Repr

/-- POST PRESSURE: only the low 12 bits of the value field are read (R191). -/
def readPressure : List Byte → Option PressureFields
  | [d, y1, y0, i, v1, v0] => some ⟨d, word16 y1 y0, i.toNat, word16 v1 v0 % 4096⟩
  | _ => none

/-- The fields of CONFIGURE DISTRICT, N1 as its byte. -/
structure ConfigFields where
  district : Byte
  properties : Nat
  allowance : Nat
  pRef : Nat
  n1 : Byte
  m : Nat
  tAbs : Nat
  tRel : Nat
  burst : Nat
  nConfirm : Nat
  gapLimit : Nat
  subLim : Nat
  deriving DecidableEq, Repr

/-- CONFIGURE DISTRICT. -/
def readConfig : List Byte → Option ConfigFields
  | [d, p1, p0, a1, a0, r1, r0, n, m, t1, t0, tr, bf, nc, gl, sb] =>
    some ⟨d, word16 p1 p0, word16 a1 a0, word16 r1 r0, n, m.toNat, word16 t1 t0, tr.toNat, bf.toNat, nc.toNat, gl.toNat, sb.toNat⟩
  | _ => none

/-- The parameters the fields ask for, if each lies in its range of R63 and N1 is a code of R194. -/
def ConfigFields.params (f : ConfigFields) : Option Params :=
  match Exponent.ofByte f.n1 with
  | none => none
  | some n1 =>
    if f.allowance ≤ 1000 ∧ 1 ≤ f.pRef ∧ f.pRef ≤ 2000 ∧ 1 ≤ f.m ∧ f.m ≤ 4 ∧ 2 ≤ f.burst ∧ f.burst ≤ 16 ∧
        1 ≤ f.nConfirm ∧ f.nConfirm ≤ 7 ∧ 1 ≤ f.gapLimit ∧ f.gapLimit ≤ 7 ∧ f.subLim ≤ 100 then
      some { properties := f.properties, allowance := f.allowance, pRef := f.pRef, n1 := n1, m := f.m, tAbs := f.tAbs,
             tRel := f.tRel, burst := f.burst, nConfirm := f.nConfirm, gapLimit := f.gapLimit, subLim := f.subLim }
    else none

/-- The eleven parameters as bytes 1 to 15 of CONFIGURE DISTRICT (R198). -/
def Params.bytes (p : Params) : List Byte :=
  be16 p.properties ++ be16 p.allowance ++ be16 p.pRef ++ [p.n1.code, byte p.m] ++ be16 p.tAbs ++
  [byte p.tRel, byte p.burst, byte p.nConfirm, byte p.gapLimit, byte p.subLim]

/-- SET SERVICE: district and requested state. -/
def readService : List Byte → Option (Byte × Byte)
  | [d, r] => some (d, r)
  | _ => none

/-- HOLD DISTRICT: district and duration. -/
def readHold : List Byte → Option (Byte × Nat)
  | [d, m1, m0] => some (d, word16 m1 m0)
  | _ => none

/-- The fields of SET BASELINE MODE. -/
structure ModeFields where
  district : Byte
  mode : Byte
  rank : Nat
  fixed : Nat
  deriving DecidableEq, Repr

/-- SET BASELINE MODE. -/
def readMode : List Byte → Option ModeFields
  | [d, m, k, f2, f1, f0] => some ⟨d, m, k.toNat, word24 f2 f1 f0⟩
  | _ => none

/-- Ring entries of 6 bytes each (R198); none if bytes are left over. -/
def readRingEntries : List Byte → Option (List RingEntry)
  | [] => some []
  | n1 :: n0 :: f3 :: f2 :: f1 :: f0 :: rest =>
    match readRingEntries rest with
    | some es => some (⟨word16 n1 n0, signed32 f3 f2 f1 f0⟩ :: es)
    | none => none
  | _ => none

/-- The fields of LOAD RING. -/
structure RingFields where
  district : Byte
  entries : List RingEntry
  deriving DecidableEq, Repr

/-- LOAD RING: none unless the body is exactly the size its entry count gives (R130). -/
def readLoadRing : List Byte → Option RingFields
  | d :: n :: rest =>
    match readRingEntries rest with
    | some es => if es.length = n.toNat then some ⟨d, es⟩ else none
    | none => none
  | _ => none

/-- A ring entry as 6 bytes (R198). -/
def RingEntry.bytes (e : RingEntry) : List Byte := be16 e.nightDay ++ beSigned32 e.figure

/-- The fields of SET STATION. -/
structure StationFields where
  position : Nat
  address : Nat
  role : Byte
  subscription : DistrictSet
  kindMask : Nat
  eventMask : Nat
  deriving DecidableEq, Repr

/-- SET STATION. -/
def readStation : List Byte → Option StationFields
  | [p, a, r, s3, s2, s1, s0, k, e] =>
    some ⟨p.toNat, a.toNat, r, BitVec.ofNat 32 (word32 s3 s2 s1 s0), k.toNat, e.toNat⟩
  | _ => none

/-! ## POST READING (R185, R195) -/

/-- A reading entry as derived from the packed body, before its checks: the day may lie outside 0..65,535. -/
structure RawEntry where
  identifier : Nat
  day : Int
  interval : Nat
  volume : Nat
  estimated : Bool
  deriving DecidableEq, Repr

/-- A reading entry that passed the checks of R41. -/
structure Entry where
  identifier : Nat
  day : Nat
  interval : Nat
  volume : Nat
  estimated : Bool
  deriving DecidableEq, Repr

/-- Entry `i` carries an identifier: entry 0 always, the others by their mask bit (R185). -/
def carriesIdentifier (mask : Byte) (i : Nat) : Bool := decide (i = 0) || mask.getLsbD i

/-- The body size that the entry count and the identifier mask give (R185). -/
def readingSize (n : Nat) (mask : Byte) : Nat :=
  6 + 4 * n + 4 * ((List.range n).filter (carriesIdentifier mask)).length

/-- The derived day of an entry with day code `code` (R185). -/
def derivedDay (base code : Nat) : Int :=
  match code with
  | 0 => (base : Int)
  | 1 => (base : Int) - 1
  | 2 => (base : Int) - 2
  | _ => (base : Int) + 1

/-- `left` entries from number `i` on; `last` is the identifier of the nearest earlier entry that carries one (R185). -/
def readEntries (mask : Byte) (codes base : Nat) : Nat → Nat → Nat → List Byte → List RawEntry
  | 0, _, _, _ => []
  | left + 1, i, last, bytes =>
    let lead := bytes.getD 0 0
    let own := carriesIdentifier mask i
    let ident := if own then word32 (bytes.getD 1 0) (bytes.getD 2 0) (bytes.getD 3 0) (bytes.getD 4 0) else last
    let v := bytes.drop (if own then 5 else 1)
    { identifier := ident
      day := derivedDay base (codes / 4 ^ i % 4)
      interval := lead.toNat % 128
      volume := word24 (v.getD 0 0) (v.getD 1 0) (v.getD 2 0)
      estimated := lead.msb } :: readEntries mask codes base left (i + 1) ident (v.drop 3)

/-- The entry, if its identifier, interval and day are in range (R41 check 5). -/
def RawEntry.checked (e : RawEntry) : Option Entry :=
  if e.identifier = 0 ∨ 95 < e.interval ∨ e.day < 0 ∨ 65535 < e.day then none
  else some ⟨e.identifier, e.day.toNat, e.interval, e.volume, e.estimated⟩

/-- The entries of a POST READING body, or the status of the first of the checks 2 to 5 of R41 that fails. -/
def readReadings (body : List Byte) : Except Status (List Entry) :=
  match body with
  | n :: mask :: c1 :: c0 :: b1 :: b0 :: rest =>
    if n.toNat < 1 ∨ 8 < n.toNat then .error .range
    else if body.length ≠ readingSize n.toNat mask then .error .length
    else match (readEntries mask (word16 c1 c0) (word16 b1 b0) n.toNat 0 0 rest).mapM RawEntry.checked with
      | some es => .ok es
      | none => .error .range
  | _ => .error .length

end Sys2Proof.Machine
end

