-- ==== Sys2Proof/Machine/ClockRequests.lean ====
section
/-!
DEFINITION. SET TIME, SET WINDOW, CLOSE NIGHT and RESTART ENGINE (sections 1.6 to 1.9).
-/

namespace Sys2Proof.Machine

/-- The clock placed at `t` with the divider returned to 0 (R11). -/
def State.placeClock (s : State) (t : ClockTime) : State := { s with nck.clock := t, nck.divider := 0 }

/-- Hold `d` expires if its expiry time is not later than `t` (R11, R18). -/
def State.expireIfReached (t : ClockTime) (s : State) (d : District) : State :=
  match (s.district d).hold with
  | some h => if ClockTime.NotAfter h.expiry t then s.expireHold d else s
  | none => s

/-- A first set at `t`: the holds it reaches expire, and the phase is chosen from where the time lands (R11). -/
def State.firstSet (s : State) (t : ClockTime) : State :=
  let s1 := allDistricts.foldl (State.expireIfReached t) { s.placeClock t with nck.clockSet := true }
  if ClockTime.NotAfter (s1.windowStartOf t.day) t ∧ ClockTime.Before t (s1.windowEndOf t.day) ∧ s1.eligible t.day = true then
    s1.openNight t.day
  else { s1 with nck.phase := .daytime }

/-- A forward set to `t`: every event of the span is taken (R12). -/
def State.forwardSet (s : State) (t : ClockTime) : State :=
  State.takeSpan (s.placeClock t) State.reachInJump s.nck.clock t

/-- A backward set to `t` is accepted: after the night mark in DAYTIME (R13), within the current interval in a night (R14). -/
def State.backwardAllowed (s : State) (t : ClockTime) : Bool :=
  match s.nck.phase with
  | .daytime => match s.nck.nightMark with
    | none => true
    | some mark => decide (ClockTime.Before mark t)
  | _ => decide (t.day = s.nck.clock.day) && decide (t.minute / 15 = s.nck.clock.minute / 15)

/-- SET TIME (R11 to R14). -/
def setTime (s : State) (_p : Position) (body : List Byte) : State × Reply :=
  match readSetTime body with
  | none => refuse s .length
  | some t =>
    if 65535 < t.day ∨ 1439 < t.minute then refuse s .range
    else if !s.nck.clockSet then accept (s.firstSet t) []
    else if t = s.nck.clock then accept (s.placeClock t) []
    else if ClockTime.Before s.nck.clock t then accept (s.forwardSet t) []
    else if s.backwardAllowed t then accept (s.placeClock t) []
    else refuse s .state

/-- SET WINDOW (R15). -/
def setWindow (s : State) (_p : Position) (body : List Byte) : State × Reply :=
  match readSetWindow body with
  | none => refuse s .length
  | some f =>
    if s.nightInProgress then refuse s .state
    else if 95 < f.wstart ∨ f.wlen < 4 ∨ 16 < f.wlen ∨ 48 < f.grace ∨ 96 < f.wstart + f.wlen ∨
        s.districts.1.any (fun r => decide (f.wlen < r.params.m)) = true then refuse s .range
    else accept { s with nck.wstart := f.wstart, nck.wlen := f.wlen, nck.grace := f.grace } []

/-- CLOSE NIGHT (R16). -/
def closeNight (s : State) (_p : Position) (body : List Byte) : State × Reply :=
  if body ≠ [] then refuse s .length
  else if s.nck.phase = .settling then accept s.closeByGrace []
  else refuse s .state

/-- HOLD_ENDED is raised for the holder of district `d`, if it is held (R17 action 5). -/
def State.flagHolder (s : State) (d : District) : State :=
  match (s.district d).hold with
  | some h => s.raiseAt .holdEnded h.holder
  | none => s

/-- The restart of the engine (R17, R94). -/
def State.restart (s : State) : State :=
  let s1 := State.purge { s with flight := none, queue := [], choiceDue := false }
  let s2 := allDistricts.foldl State.flagHolder s1
  { s2 with
    districts := s2.districts.map (fun r => { r with nightState := .idle, hold := none })
    nck.phase := if s.nck.clockSet then .daytime else .stopped }

/-- RESTART ENGINE (R17). -/
def restartEngine (s : State) (_p : Position) (body : List Byte) : State × Reply :=
  if body ≠ [] then refuse s .length else accept s.restart []

end Sys2Proof.Machine
end

