-- ==== Sys2Proof/Machine/MeterRequests.lean ====
section
/-!
DEFINITION. The requests of the Meter Directory (chapter 2).
-/

namespace Sys2Proof.Machine

/-- District `d` is EVALUATING (BUSY, R75). -/
def State.busy (s : State) (d : District) : Bool := decide ((s.district d).nightState = .evaluating)

/-- District `d` is under an edit hold placed by a station other than the requester (LOCKED, R75). -/
def State.lockedFor (s : State) (p : Position) (d : District) : Bool :=
  match (s.district d).hold with
  | some h => decide (h.holder ≠ p)
  | none => false

/-- The districts of a link, if it is present. -/
def linkDistricts (l : Option MeterLink) : List District :=
  match l with
  | some l => [l.district]
  | none => []

/-- The districts a slot is linked to. -/
def Slot.districts (sl : Slot) : List District := linkDistricts sl.primary ++ linkDistricts sl.secondary

/-- The RANGE check of BIND METER on its identifier and links (R23 check 1). -/
def bindRange (identifier : Nat) (primary secondary : Option MeterLink) : Bool :=
  (match primary, secondary with
   | some p, some q => decide (p.district = q.district)
   | none, some _ => true
   | _, none => false) ||
  (decide (identifier ≠ 0) && primary.isNone) ||
  (decide (identifier = 0) && (primary.isSome || secondary.isSome))

/-- The record an accepted BIND METER or UNBIND METER leaves: disabled, with no held mean, counters 0 and 16 EMPTY cells (R24). -/
def boundSlot (identifier : Nat) (primary secondary : Option MeterLink) (protect : Bool) : Slot :=
  { unboundSlot with identifier := identifier, primary := primary, secondary := secondary,
                     protect := protect && decide (identifier ≠ 0) }

/-- BIND METER, with identifier 0 and no links UNBIND METER (R23, R24). -/
def bindMeter (s : State) (p : Position) (body : List Byte) : State × Reply :=
  match readBind body with
  | none => refuse s .length
  | some f =>
    match resolveLink f.primary, resolveLink f.secondary with
    | some primary, some secondary =>
      if bindRange f.identifier primary secondary then refuse s .range
      else if (s.slot f.slot).enabled then refuse s .state
      else
        let ds := (s.slot f.slot).districts ++ linkDistricts primary ++ linkDistricts secondary
        if ds.any s.busy then refuse s .busy
        else if ds.any (s.lockedFor p) then refuse s .locked
        else accept ((s.modSlot f.slot (fun _ => boundSlot f.identifier primary secondary f.protect)).configChanged p) []
    | _, _ => refuse s .range

/-- ENABLE METER (R25, R26). -/
def enableMeter (s : State) (p : Position) (body : List Byte) : State × Reply :=
  match readOne body with
  | none => refuse s .length
  | some b =>
    let i := slotOf b
    let sl := s.slot i
    if sl.identifier = 0 then refuse s .state
    else if sl.enabled then accept s []
    else if s.slots.1.any (fun x => x.enabled && decide (x.identifier = sl.identifier)) then refuse s .duplicateId
    else if sl.districts.any s.busy then refuse s .busy
    else if sl.districts.any (s.lockedFor p) then refuse s .locked
    else accept (State.configChanged
      { s.modSlot i (fun x => { x with enabled := true }) with
        strays := s.strays.filter (fun x => decide (x.identifier ≠ sl.identifier)) } p) []

/-- The districts the slot is linked to, in increasing order of index (R28, R49). -/
def Slot.districtsInOrder (sl : Slot) : List District := allDistricts.filter sl.linkedTo

/-- The completion checks for the districts of a slot, made in SETTLING only (R28, R49, R55). -/
def State.checkSlotDistricts (s : State) (sl : Slot) : State :=
  if s.nck.phase = .settling then sl.districtsInOrder.foldl State.completionCheck s else s

/-- DISABLE METER (R27, R28). -/
def disableMeter (s : State) (p : Position) (body : List Byte) : State × Reply :=
  match readOne body with
  | none => refuse s .length
  | some b =>
    let i := slotOf b
    let sl := s.slot i
    if !sl.enabled then accept s []
    else if sl.districts.any s.busy then refuse s .busy
    else if sl.districts.any (s.lockedFor p) then refuse s .locked
    else accept (((s.modSlot i (fun x => { x with enabled := false })).checkSlotDistricts sl).configChanged p) []

/-- A cell in 3 bytes: state in bits 23 and 22, volume in bits 19 to 0 (R198). -/
def Cell.bytes (c : Cell) : List Byte := be24 (c.state.code * 4194304 + c.volume)

/-- The READ METER answer body (R37, R198). -/
def Slot.bytes (sl : Slot) : List Byte :=
  be32 sl.identifier ++ [byte (sl.enabled.toNat + 2 * sl.protect.toNat), linkByte sl.primary, linkByte sl.secondary] ++
  be24 (match sl.heldMean with
        | some m => 8388608 + m
        | none => 0) ++
  [byte sl.duplicates, byte sl.conflicts] ++ sl.cells.1.flatMap Cell.bytes

/-- READ METER (R37). -/
def readMeter (s : State) (_p : Position) (body : List Byte) : State × Reply :=
  match readOne body with
  | none => refuse s .length
  | some b => accept s (s.slot (slotOf b)).bytes

/-- A stray entry in 7 bytes (R198). -/
def Stray.bytes (x : Stray) : List Byte := be32 x.identifier ++ [byte x.count] ++ be16 x.day

/-- READ STRAY LIST (R36). -/
def readStrayList (s : State) (_p : Position) (body : List Byte) : State × Reply :=
  if body ≠ [] then refuse s .length
  else accept s (byte s.strays.length :: s.strays.flatMap Stray.bytes)

/-- FORGET STRAYS (R35). -/
def forgetStrays (s : State) (_p : Position) (body : List Byte) : State × Reply :=
  if body ≠ [] then refuse s .length else accept { s with strays := [] } []

end Sys2Proof.Machine
end

