-- ==== Sys2Proof/Machine/Intake.lean ====
section
/-!
DEFINITION. POST READING and POST PRESSURE (sections 3.2 and 3.3), with the lookup and the sightings of chapter 2.
-/

namespace Sys2Proof.Machine

/-- The outcome of a reading entry or a pressure sample (section 4.4). -/
inductive EntryOutcome
  | filed | clamped | unknownMeter | early | outsideWindow | late | notNeeded | downgrade | upgraded | duplicate
  | replaced | keptFirst
  deriving DecidableEq, Repr

/-- The outcome byte (R194). -/
def EntryOutcome.code : EntryOutcome → Byte
  | .filed => 0 | .clamped => 1 | .unknownMeter => 2 | .early => 3 | .outsideWindow => 4 | .late => 5
  | .notNeeded => 6 | .downgrade => 7 | .upgraded => 8 | .duplicate => 9 | .replaced => 10 | .keptFirst => 11

/-- An outcome of a stored entry (R48). -/
def EntryOutcome.stored : EntryOutcome → Bool
  | .filed | .clamped | .upgraded | .replaced => true
  | _ => false

/-- The enabled slot that holds an identifier (R30). -/
def State.lookup (s : State) (identifier : Nat) : Option SlotIndex :=
  (List.finRange 256).find? (fun i => (s.slot i).enabled && decide ((s.slot i).identifier = identifier))

/-- The stray list after a sighting of `identifier` on day `day` (R34). -/
def sighted (strays : List Stray) (identifier day : Nat) : List Stray :=
  match strays.find? (fun x => decide (x.identifier = identifier)) with
  | some x => strays.filter (fun y => decide (y.identifier ≠ identifier)) ++ [⟨identifier, bump 255 x.count, day⟩]
  | none => (if strays.length < 8 then strays else strays.drop 1) ++ [⟨identifier, 1, day⟩]

/-- The EARLY test (R45). -/
def State.early (s : State) (day interval : Nat) : Bool :=
  !decide (s.IntervalEnded day interval) ||
  (match s.nck.nightDay with
   | some n => decide (n < day)
   | none => false)

/-- The OUTSIDE_WINDOW test (R46). -/
def State.outsideWindow (s : State) (day interval : Nat) : Bool :=
  decide (s.nck.nightDay = some day) &&
  (decide (interval < s.nck.wstart) || decide (s.nck.wstart + s.nck.wlen ≤ interval))

/-- The first three rows of the LATE test (R47, R52): no night, an earlier night, or no night in progress. -/
def State.lateForNight (s : State) (day : Nat) : Bool :=
  (match s.nck.nightDay with
   | none => true
   | some n => decide (day < n)) || !s.nightInProgress

/-- The district accepts readings (R64). -/
def NightState.acceptsReadings (n : NightState) : Bool :=
  match n with
  | .opened | .queued => true
  | _ => false

/-- The district has begun or ended its evaluation (R47). -/
def NightState.closed (n : NightState) : Bool :=
  match n with
  | .evaluating | .done => true
  | _ => false

/-- The cell of interval `i` (R39). An interval that passed R46 lies in the window, which is at most 16 cells long (log 16). -/
def State.cellIndex (s : State) (i : Nat) : Fin 16 := Fin.ofNat 16 (i - s.nck.wstart)

/-- The cell rules (R48): the cell afterwards and the outcome, before the clamp mark is looked at. -/
def Cell.offered (c : Cell) (protect estimated : Bool) (volume : Nat) : Cell × EntryOutcome :=
  let incoming : Cell := ⟨if estimated then .estimated else .good, volume⟩
  match c.state, estimated with
  | .empty, _ => (incoming, .filed)
  | .good, true => (c, .downgrade)
  | .estimated, false => (incoming, .upgraded)
  | _, _ =>
    if c.volume = volume then (c, .duplicate)
    else if protect then (c, .keptFirst)
    else (incoming, .replaced)

/-- The outcome a clamped entry reads: CLAMPED in place of FILED or REPLACED (R43). -/
def EntryOutcome.marked (o : EntryOutcome) (clamped : Bool) : EntryOutcome :=
  match o with
  | .filed | .replaced => if clamped then .clamped else o
  | o => o

/-- The slot after its cell is written and its meter counter moved (R48, R32). -/
def Slot.filedWith (sl : Slot) (c : Fin 16) (cell : Cell) (o : EntryOutcome) : Slot :=
  { sl with
    cells := sl.cells.set c cell
    duplicates := if o = .duplicate then bump 255 sl.duplicates else sl.duplicates
    conflicts := if o = .replaced ∨ o = .keptFirst then bump 255 sl.conflicts else sl.conflicts }

/-- The seventh step for an entry of slot `i`: the cell rules, the counters, the completion checks (R48, R49, R50). -/
def State.fileEntry (s : State) (i : SlotIndex) (interval volume : Nat) (estimated clamped : Bool) : State × EntryOutcome :=
  let sl := s.slot i
  let c := s.cellIndex interval
  let r := (sl.cells.get c).offered sl.protect estimated volume
  let s1 := s.modSlot i (fun x => x.filedWith c r.1 r.2)
  if r.2.stored then
    (State.checkSlotDistricts { s1 with counters.readingsStored := bump 65535 s1.counters.readingsStored } sl,
     r.2.marked clamped)
  else (s1, r.2)

/-- The examination of one entry: clamp, lookup, EARLY, OUTSIDE_WINDOW, LATE, NOT_NEEDED, cell (R43 to R49). -/
def State.examine (s : State) (e : Entry) : State × EntryOutcome :=
  let clamped := decide (1048575 < e.volume)
  let volume := if clamped then 1048575 else e.volume
  match s.lookup e.identifier with
  | none =>
    ({ s with strays := sighted s.strays e.identifier s.nck.clock.day
              counters.unknownMeters := bump 65535 s.counters.unknownMeters }, .unknownMeter)
  | some i =>
    let states := (s.slot i).districtsInOrder.map (fun d => (s.district d).nightState)
    if s.early e.day e.interval then (s, .early)
    else if s.outsideWindow e.day e.interval then (s, .outsideWindow)
    else if s.lateForNight e.day || (!states.any NightState.acceptsReadings && states.any NightState.closed) then
      ({ s with counters.readingsLate := bump 65535 s.counters.readingsLate }, .late)
    else if !states.any NightState.acceptsReadings then (s, .notNeeded)
    else s.fileEntry i e.interval volume (e.estimated || clamped) clamped

/-- The entries examined one after another in list order (R42), with their outcomes in the same order. -/
def State.examineAll (s : State) : List Entry → State × List EntryOutcome
  | [] => (s, [])
  | e :: es =>
    let r := s.examine e
    let rest := r.1.examineAll es
    (rest.1, r.2 :: rest.2)

/-- POST READING (R41, R42). -/
def postReading (s : State) (_p : Position) (body : List Byte) : State × Reply :=
  if !s.nck.clockSet then refuse s .noTime
  else match readReadings body with
    | .error st => refuse s st
    | .ok es =>
      let r := s.examineAll es
      accept r.1 (byte es.length :: r.2.map EntryOutcome.code)

/-- The pressure sample reaches its cell (R53). -/
def State.filePressure (s : State) (d : District) (interval value : Nat) (clamped : Bool) : State × EntryOutcome :=
  let c := s.cellIndex interval
  let old := (s.pressure.get d).get c
  ({ s with pressure := s.pressure.modify d (fun t => t.set c (some value)) },
   if clamped then .clamped else if old.isNone then .filed else .replaced)

/-- The judgement of an accepted POST PRESSURE (R52). -/
def State.judgePressure (s : State) (d : District) (day interval value : Nat) : State × EntryOutcome :=
  let clamped := decide (2000 < value)
  let v := if clamped then 2000 else value
  let n := (s.district d).nightState
  if s.early day interval then (s, .early)
  else if s.outsideWindow day interval then (s, .outsideWindow)
  else if s.lateForNight day || n.closed then (s, .late)
  else if !n.acceptsReadings then (s, .notNeeded)
  else s.filePressure d interval v clamped

/-- POST PRESSURE (R51, R52). -/
def postPressure (s : State) (_p : Position) (body : List Byte) : State × Reply :=
  if !s.nck.clockSet then refuse s .noTime
  else match readPressure body with
    | none => refuse s .length
    | some f =>
      match districtOf f.district with
      | none => refuse s .range
      | some d =>
        if 95 < f.interval then refuse s .range
        else
          let r := s.judgePressure d f.day f.interval f.value
          accept r.1 [r.2.code]

end Sys2Proof.Machine
end

