-- ==== Sys2Proof/Machine/DistrictRequests.lean ====
section
/-!
DEFINITION. The requests of the District Table and of the Evaluation Queue (chapter 4, R84).
-/

namespace Sys2Proof.Machine

/-- BUSY and then LOCKED for a request that names district `d` (R66, R68, R73, R75, R128): the refusal, if either applies. -/
def State.guarded (s : State) (p : Position) (d : District) : Option Status :=
  if s.busy d then some .busy else if s.lockedFor p d then some .locked else none

/-- CONFIGURE DISTRICT (R66, R67). -/
def configureDistrict (s : State) (p : Position) (body : List Byte) : State × Reply :=
  match readConfig body with
  | none => refuse s .length
  | some f =>
    match districtOf f.district, f.params with
    | some d, some ps =>
      if s.nck.wlen < ps.m then refuse s .range
      else match s.guarded p d with
        | some st => refuse s st
        | none =>
          let s1 := s.modDistrict d (fun r => { r with params := ps })
          let s2 := s1.modWatch d (fun w => { w with excess := min w.excess ps.nConfirm })
          accept (s2.configChanged p) []
    | _, _ => refuse s .range

/-- SET SERVICE OUT on an in-service district: actions 1 to 6 (R69). -/
def State.takeOut (s : State) (d : District) : State :=
  let held := (s.district d).hold.isSome
  let s1 : State := { s with queue := s.queue.filter (fun e => decide (e.district ≠ d)) }
  let s2 := s1.modDistrict d (fun r => { r with inService := false, nightState := .idle })
  let s3 := s2.modWatch d (fun w => { w with state := .out, excess := 0, gap := 0 })
  let s4 := s3.changeAlert d .none
  let s5 := if held then (s4.removeHold d).prompt else s4
  s5.nightEndTest

/-- SET SERVICE IN on an out-of-service district (R70). -/
def State.putIn (s : State) (d : District) : State :=
  let s1 := s.modDistrict d (fun r =>
    { r with inService := true, nightState := if s.nightInProgress then .skipped else .idle })
  s1.modWatch d (fun w =>
    { w with state := if (s.baseline d).b.isSome then .quiet else .learning, excess := 0, gap := 0, alert := .none })

/-- SET SERVICE (R68): byte 1 is 0 for OUT and 1 for IN. -/
def setService (s : State) (p : Position) (body : List Byte) : State × Reply :=
  match readService body with
  | none => refuse s .length
  | some (b, r) =>
    match districtOf b with
    | none => refuse s .range
    | some d =>
      if r ≠ 0 ∧ r ≠ 1 then refuse s .range
      else if (s.district d).inService = decide (r = 1) then accept s []
      else match s.guarded p d with
        | some st => refuse s st
        | none => accept ((if r = 1 then s.putIn d else s.takeOut d).configChanged p) []

/-- HOLD DISTRICT (R73). -/
def holdDistrict (s : State) (p : Position) (body : List Byte) : State × Reply :=
  match readHold body with
  | none => refuse s .length
  | some (b, minutes) =>
    match districtOf b with
    | none => refuse s .range
    | some d =>
      if minutes = 0 then refuse s .range
      else match s.guarded p d with
        | some st => refuse s st
        | none =>
          let m := min minutes 240
          accept (s.modDistrict d (fun r => { r with hold := some ⟨p, s.nck.clock.plus m⟩ })) [byte m]

/-- RELEASE DISTRICT (R74). -/
def releaseDistrict (s : State) (p : Position) (body : List Byte) : State × Reply :=
  match readOne body with
  | none => refuse s .length
  | some b =>
    match districtOf b with
    | none => refuse s .range
    | some d =>
      match (s.district d).hold with
      | none => refuse s .state
      | some h => if h.holder = p then accept (s.removeHold d).prompt [] else refuse s .locked

/-- The remaining minutes of a hold, stopping at 65,535 (R80). -/
def State.remaining (s : State) (h : Hold) : Nat := min 65535 (h.expiry.total - s.nck.clock.total)

/-- The READ DISTRICT answer body (R80, R198). -/
def State.districtBytes (s : State) (d : District) : List Byte :=
  let r := s.district d
  let holderAddress := match r.hold with
    | some h => (s.station h.holder).address.toNat
    | none => 0
  r.params.bytes ++
  [byte (r.inService.toNat + 2 * r.hold.isSome.toNat + 4 * r.heldPressure.isSome.toNat + 16 * holderAddress),
   r.nightState.code] ++
  be16 (match r.hold with
        | some h => s.remaining h
        | none => 0) ++
  be16 (r.heldPressure.getD 0)

/-- READ DISTRICT (R80). -/
def readDistrict (s : State) (_p : Position) (body : List Byte) : State × Reply :=
  match readOne body with
  | none => refuse s .length
  | some b =>
    match districtOf b with
    | none => refuse s .range
    | some d => accept s (s.districtBytes d)

/-- The presence byte of the result record (R196). -/
def Result.presence (r : Result) : Byte :=
  match r.figures with
  | none => 0
  | some f => byte (1 + 2 * f.pUsed.isSome.toNat + 4 * f.compared.isSome.toNat)

/-- The result record after its first byte; absent fields are zeros (R191, R196). -/
def Result.bytes (r : Result) : List Byte :=
  be16 r.nightDay ++ [r.status.code, reasonCode r.reason, r.flags.code, r.presence] ++ be16 r.slotsUsed ++ be16 r.cellsSubstituted ++
  (match r.figures with
   | none => List.replicate 27 0
   | some f =>
     beSigned32 f.nf ++ [byte f.minInterval] ++ be16 (f.pUsed.getD 0) ++ be32 f.f ++ beSigned32 f.c ++
     (match f.compared with
      | none => List.replicate 12 0
      | some k => beSigned32 k.b ++ beSigned32 k.t ++ beSigned32 k.x)) ++
  [r.verdict.code]

/-- READ RESULT (R81, R196). -/
def readResult (s : State) (_p : Position) (body : List Byte) : State × Reply :=
  match readOne body with
  | none => refuse s .length
  | some b =>
    match districtOf b with
    | none => refuse s .range
    | some d =>
      match (s.district d).result with
      | none => accept s [0]
      | some r => accept s (1 :: r.bytes)

/-- A queue entry as a byte, with its held mark (R84, R198). -/
def State.entryByte (s : State) (e : QueueEntry) : Byte :=
  byte (64 * (s.district e.district).hold.isSome.toNat + 32 * e.reason.code + e.district.1)

/-- READ QUEUE (R84). -/
def readQueue (s : State) (_p : Position) (body : List Byte) : State × Reply :=
  if body ≠ [] then refuse s .length
  else accept s
    ((match s.flight with
      | some f => byte (128 + f.district.1)
      | none => 0) :: byte s.queue.length :: s.queue.map s.entryByte)

end Sys2Proof.Machine
end

