-- ==== Sys2Proof/Machine/BaselineRequests.lean ====
section
/-!
DEFINITION. The requests of the Baseline Store (chapter 7).
-/

namespace Sys2Proof.Machine

/-- SET BASELINE MODE (R128, R129). -/
def setBaselineMode (s : State) (p : Position) (body : List Byte) : State × Reply :=
  match readMode body with
  | none => refuse s .length
  | some f =>
    match districtOf f.district, BaselineMode.ofByte f.mode with
    | some d, some mode =>
      if f.rank < 1 ∨ 4 < f.rank ∨ 16777215 < f.fixed then refuse s .range
      else match s.guarded p d with
        | some st => refuse s st
        | none =>
          let s1 := s.modBaseline d (fun bl => { bl with mode := mode, rank := f.rank, fixed := f.fixed })
          accept ((s1.configChanged p).rejudge d) []
    | _, _ => refuse s .range

/-- The night days of a list of ring entries rise strictly (R124, R130). -/
def ringRises : List RingEntry → Bool
  | a :: b :: rest => decide (a.nightDay < b.nightDay) && ringRises (b :: rest)
  | _ => true

/-- No entry is later than the current night day, if there is one (R130). -/
def State.ringNotLater (s : State) (es : List RingEntry) : Bool :=
  match s.nck.nightDay with
  | none => true
  | some n => es.all (fun e => decide (e.nightDay ≤ n))

/-- LOAD RING (R130, R131). -/
def loadRing (s : State) (p : Position) (body : List Byte) : State × Reply :=
  match readLoadRing body with
  | none => refuse s .length
  | some f =>
    match districtOf f.district with
    | none => refuse s .range
    | some d =>
      if 8 < f.entries.length ∨ ringRises f.entries = false ∨ s.ringNotLater f.entries = false then refuse s .range
      else match s.guarded p d with
        | some st => refuse s st
        | none => accept (((s.modBaseline d (fun bl => { bl with ring := f.entries })).configChanged p).rejudge d) []

/-- CLEAR RING (R132). -/
def clearRing (s : State) (p : Position) (body : List Byte) : State × Reply :=
  match readOne body with
  | none => refuse s .length
  | some b =>
    match districtOf b with
    | none => refuse s .range
    | some d =>
      match s.guarded p d with
      | some st => refuse s st
      | none => accept (((s.modBaseline d (fun bl => { bl with ring := [] })).configChanged p).rejudge d) []

/-- The READ RING answer body (R134, R198). -/
def Baseline.bytes (bl : Baseline) : List Byte :=
  [bl.mode.code, byte bl.rank] ++ be24 bl.fixed ++ [byte bl.b.isSome.toNat] ++ beSigned32 (bl.b.getD 0) ++
  byte bl.ring.length :: bl.ring.flatMap RingEntry.bytes

/-- READ RING (R134). -/
def readRing (s : State) (_p : Position) (body : List Byte) : State × Reply :=
  match readOne body with
  | none => refuse s .length
  | some b =>
    match districtOf b with
    | none => refuse s .range
    | some d => accept s (s.baseline d).bytes

end Sys2Proof.Machine
end

