-- ==== Sys2Proof/Machine/WatchRequests.lean ====
section
/-!
DEFINITION. ACKNOWLEDGE, MARK REPAIRED and READ WATCH (sections 8.5, 8.6, 8.8).
-/

namespace Sys2Proof.Machine

/-- The ACKNOWLEDGE and MARK REPAIRED answer body (R198). -/
def Watch.shortBytes (w : Watch) : List Byte := [w.state.code, byte w.excess, w.alert.code]

/-- The effect of an accepted ACKNOWLEDGE (R151). -/
def State.acknowledge (s : State) (d : District) : State :=
  if (s.watch d).state = .alerted then
    (s.modWatch d (fun w => { w with state := .acknowledged })).dropPendingAll d
  else s.changeAlert d .none

/-- ACKNOWLEDGE (R150, R151). -/
def acknowledge (s : State) (p : Position) (body : List Byte) : State × Reply :=
  match readOne body with
  | none => refuse s .length
  | some b =>
    match districtOf b with
    | none => refuse s .range
    | some d =>
      if s.lockedFor p d then refuse s .locked
      else if (s.watch d).state ≠ .alerted ∧ (s.watch d).alert ≠ .dataLoss then refuse s .state
      else accept (s.acknowledge d) ((s.acknowledge d).watch d).shortBytes

/-- The effect of an accepted MARK REPAIRED (R153). -/
def State.markRepaired (s : State) (d : District) : State :=
  (s.modWatch d (fun w =>
    { w with state := if (s.baseline d).b.isSome then .quiet else .learning, excess := 0 })).changeAlert d .cleared

/-- MARK REPAIRED (R152, R153). -/
def markRepaired (s : State) (p : Position) (body : List Byte) : State × Reply :=
  match readOne body with
  | none => refuse s .length
  | some b =>
    match districtOf b with
    | none => refuse s .range
    | some d =>
      if s.lockedFor p d then refuse s .locked
      else if (s.watch d).state ≠ .alerted ∧ (s.watch d).state ≠ .acknowledged then refuse s .state
      else accept (s.markRepaired d) ((s.markRepaired d).watch d).shortBytes

/-- The positions that hold district `d` pending, as bits 0 to 3 (R157, R198). -/
def State.pendingPositions (s : State) (d : District) : Nat :=
  (allPositions.map (fun p => if (s.station p).pendingSet.has d then 2 ^ p.1 else 0)).sum

/-- READ WATCH (R157). -/
def readWatch (s : State) (_p : Position) (body : List Byte) : State × Reply :=
  match readOne body with
  | none => refuse s .length
  | some b =>
    match districtOf b with
    | none => refuse s .range
    | some d =>
      let w := s.watch d
      let ps := (s.district d).params
      accept s [w.state.code, byte w.excess, byte ps.nConfirm, byte w.gap, byte ps.gapLimit, w.alert.code,
                byte (s.pendingPositions d)]

end Sys2Proof.Machine
end

