-- ==== Sys2Proof/Machine/StationRequests.lean ====
section
/-!
DEFINITION. The requests of the Station Table and Notices (chapter 9).
-/

namespace Sys2Proof.Machine

/-- Districts of a subscription whose alert is not NONE and whose kind is in the entry's kind mask (R162 action 4). -/
def State.rebuiltSet (s : State) (st : Station) : DistrictSet :=
  allDistricts.foldl
    (fun x d => if st.subscription.has d && st.wantsKind (s.watch d).alert then x.add d else x) 0#32

/-- The entry written at `p`: flags cleared, pending set rebuilt (R162 actions 1, 2 and 4). -/
def State.writeEntry (s : State) (p : Position) (st : Station) : State :=
  s.modStation p (fun _ => { st with flags := 0#5, pendingSet := s.rebuiltSet st })

/-- A district record with its hold removed if position `p` holds it (R77). -/
def DistrictRecord.withoutHoldOf (p : Position) (r : DistrictRecord) : DistrictRecord :=
  match r.hold with
  | some h => if h.holder = p then { r with hold := none } else r
  | none => r

/-- Every hold of position `p` ends, with no HOLD_ENDED; the Evaluation Unit is prompted once if one ended (R77, log 17). -/
def State.endHoldsOf (s : State) (p : Position) : State :=
  if s.districts.1.any (fun r => decide (r.hold.map (·.holder) = some p)) then
    State.prompt { s with districts := s.districts.map (DistrictRecord.withoutHoldOf p) }
  else s

/-- The effect of an accepted SET STATION (R162). -/
def State.setStation (s : State) (p : Position) (st : Station) : State :=
  let old := s.station p
  let s1 := s.writeEntry p st
  let s2 := if old.address ≠ st.address ∨ old.role ≠ st.role ∨ st.role = none then s1.endHoldsOf p else s1
  allDistricts.foldl State.endCleared s2

/-- Another occupied position holds the address (R161 check 5). -/
def State.addressTaken (s : State) (p : Position) (a : BitVec 4) : Bool :=
  allPositions.any (fun q => decide (q ≠ p) && (s.station q).occupied && decide ((s.station q).address = a))

/-- SET STATION (R161, R162). The masks are checked before the role is looked at (log 11). -/
def setStation (s : State) (_p : Position) (body : List Byte) : State × Reply :=
  match readStation body with
  | none => refuse s .length
  | some f =>
    match stationRoleOf f.role with
    | none => refuse s .range
    | some role =>
      if h : 1 ≤ f.position ∧ f.position < 4 then
        let q : Position := ⟨f.position, h.2⟩
        if 16 ≤ f.kindMask ∨ 32 ≤ f.eventMask then refuse s .range
        else match role with
          | some .telemetry => refuse s .range
          | none => accept (s.setStation q freeStation) []
          | some r =>
            if f.address = 0 ∨ 15 < f.address then refuse s .range
            else if s.addressTaken q (BitVec.ofNat 4 f.address) then refuse s .range
            else accept (s.setStation q
              { address := BitVec.ofNat 4 f.address, role := some r, subscription := f.subscription,
                kindMask := BitVec.ofNat 4 f.kindMask, eventMask := BitVec.ofNat 5 f.eventMask, pendingSet := 0#32,
                flags := 0#5 }) []
      else refuse s .range

/-- SET EVENT MASK (R163). -/
def setEventMask (s : State) (p : Position) (body : List Byte) : State × Reply :=
  match readOne body with
  | none => refuse s .length
  | some m =>
    if 32 ≤ m.toNat then refuse s .range
    else accept (s.modStation p (fun st => { st with eventMask := BitVec.ofNat 5 m.toNat })) []

/-- The district a TAKE NOTICE chooses: the highest kind, then the lowest index (R166). -/
def State.noticeChoice (s : State) (p : Position) : Option District :=
  [Alert.burst, Alert.rising, Alert.dataLoss, Alert.cleared].findSome? (fun k =>
    allDistricts.find? (fun d => (s.station p).pendingSet.has d && decide ((s.watch d).alert = k)))

/-- The figures of a published result, if it carries any. -/
def figuresOf (r : Option Result) : Option Figures := r.bind (·.figures)

/-- The TAKE NOTICE answer body (R166, R197). -/
def State.noticeBytes (s : State) (d : District) : List Byte :=
  let r := (s.district d).result
  let k := (figuresOf r).bind (·.compared)
  [byte d.1, (s.watch d).alert.code, (s.watch d).state.code, byte (s.watch d).excess,
   byte (r.isSome.toNat + 2 * (figuresOf r).isSome.toNat + 4 * k.isSome.toNat + 8 * k.isSome.toNat)] ++
  be16 ((r.map (·.nightDay)).getD 0) ++ beSigned32 (((figuresOf r).map (·.c)).getD 0) ++
  beSigned32 ((k.map (·.b)).getD 0) ++ beSigned32 ((k.map (·.x)).getD 0)

/-- TAKE NOTICE (R166). -/
def takeNotice (s : State) (p : Position) (body : List Byte) : State × Reply :=
  if body ≠ [] then refuse s .length
  else match s.noticeChoice p with
    | none => refuse s .nonePending
    | some d => accept { s with rqh.notice := some ⟨p, d⟩ } (s.noticeBytes d)

/-- READ EVENTS (R169). -/
def readEvents (s : State) (p : Position) (body : List Byte) : State × Reply :=
  if body ≠ [] then refuse s .length
  else accept { s with rqh.events := some ⟨p, (s.station p).flags⟩ }
    [byte (s.station p).flags.toNat, byte (s.station p).eventMask.toNat]

/-- The nine counters in the order of R171, two bytes each (R198). -/
def Counters.bytes (c : Counters) : List Byte :=
  be16 c.checkErrors ++ be16 c.lengthErrors ++ be16 c.unknownContentions ++ be16 c.fairnessDiscards ++
  be16 c.handshakeTimeouts ++ be16 c.linkBreaks ++ be16 c.readingsStored ++ be16 c.readingsLate ++ be16 c.unknownMeters

/-- READ STATUS (R172, R198). -/
def readStatus (s : State) (_p : Position) (body : List Byte) : State × Reply :=
  if body ≠ [] then refuse s .length
  else accept s
    ([s.nck.phase.code] ++ be16 s.nck.clock.day ++ be16 s.nck.clock.minute ++
     [byte (s.nck.clockSet.toNat + 2 * s.nck.nightDay.isSome.toNat + 4 * s.flight.isSome.toNat)] ++
     be16 (s.nck.nightDay.getD 0) ++
     [byte s.queue.length,
      match s.flight with
      | some f => byte f.district.1
      | none => 0] ++ s.counters.bytes)

/-- CLEAR COUNTERS (R173). -/
def clearCounters (s : State) (_p : Position) (body : List Byte) : State × Reply :=
  if body ≠ [] then refuse s .length else accept { s with counters := zeroCounters } []

end Sys2Proof.Machine
end

