-- ==== Sys2Proof/Machine/Link.lean ====
section
/-!
DEFINITION. The Station Link Interface and the Request Handler (chapter 10): rights, execution, answers, contention, the byte
handshake, timeouts, breaks, the frame end.
-/

namespace Sys2Proof.Machine

/-! ## Rights and execution (R160, R184) -/

/-- A role holds the right for a kind (the table of R160). -/
def mayRequest (k : Kind) (r : StationRole) : Bool :=
  match k with
  | .setTime | .setWindow | .restartEngine | .setStation | .clearCounters => decide (r = .telemetry)
  | .closeNight | .configureDistrict | .setService | .bindMeter | .enableMeter | .disableMeter | .forgetStrays
  | .holdDistrict | .releaseDistrict | .setBaselineMode | .loadRing | .clearRing | .acknowledge | .markRepaired =>
    decide (r = .telemetry) || decide (r = .service)
  | .postReading => decide (r = .telemetry) || decide (r = .service) || decide (r = .gateway)
  | .postPressure => decide (r = .telemetry) || decide (r = .service) || decide (r = .pressure)
  | .readStatus | .readDistrict | .readResult | .readMeter | .readStrayList | .readQueue | .readRing | .readWatch
  | .takeNotice | .readEvents | .setEventMask => true

/-- The occupied position that holds an address (R160, R178). -/
def State.positionOf (s : State) (a : BitVec 4) : Option Position :=
  allPositions.find? (fun p => (s.station p).occupied && decide ((s.station p).address = a))

/-- The requester: the occupied position whose address holds the grant (R160). -/
def State.requester (s : State) : Option Position := s.link.holder.bind s.positionOf

/-- The rule of each kind's own request (R184 steps 2 to 4). -/
def handle (k : Kind) (s : State) (p : Position) (body : List Byte) : State × Reply :=
  match k with
  | .setTime => setTime s p body
  | .setWindow => setWindow s p body
  | .closeNight => closeNight s p body
  | .restartEngine => restartEngine s p body
  | .bindMeter => bindMeter s p body
  | .enableMeter => enableMeter s p body
  | .disableMeter => disableMeter s p body
  | .readMeter => readMeter s p body
  | .readStrayList => readStrayList s p body
  | .forgetStrays => forgetStrays s p body
  | .postReading => postReading s p body
  | .postPressure => postPressure s p body
  | .configureDistrict => configureDistrict s p body
  | .setService => setService s p body
  | .holdDistrict => holdDistrict s p body
  | .releaseDistrict => releaseDistrict s p body
  | .readDistrict => readDistrict s p body
  | .readResult => readResult s p body
  | .readQueue => readQueue s p body
  | .setBaselineMode => setBaselineMode s p body
  | .loadRing => loadRing s p body
  | .clearRing => clearRing s p body
  | .readRing => readRing s p body
  | .acknowledge => acknowledge s p body
  | .markRepaired => markRepaired s p body
  | .readWatch => readWatch s p body
  | .setStation => setStation s p body
  | .setEventMask => setEventMask s p body
  | .takeNotice => takeNotice s p body
  | .readEvents => readEvents s p body
  | .readStatus => readStatus s p body
  | .clearCounters => clearCounters s p body

/-- A request executed: the role check, then the request's rule (R160, R184).
A grant always belongs to an occupied position (R178); a requester with no role holds no right (log 22). -/
def execute (k : Kind) (s : State) (body : List Byte) : State × Reply :=
  match s.requester with
  | none => refuse s .role
  | some p =>
    match (s.station p).role with
    | none => refuse s .role
    | some r => if mayRequest k r then handle k s p body else refuse s .role

/-! ## Grant and answer (R179, R180, R184, R186) -/

/-- A position's attention bit as a bit of DN: positions 0, 1, 2, 3 in bit periods 4 to 7 (R192). -/
def State.attentionBits (s : State) : BitVec 4 :=
  BitVec.ofBool (s.attention 0) ++ BitVec.ofBool (s.attention 1) ++ BitVec.ofBool (s.attention 2) ++ BitVec.ofBool (s.attention 3)

/-- DV: the answer byte on offer is valid (R186). -/
def Link.dv (l : Link) : Bool := decide (l.phase = .answer) && decide (l.sendStep = .offer)

/-- DA: the acknowledge of the request byte (R181). -/
def Link.da (l : Link) : Bool := decide (l.phase = .request) && decide (l.recvStep = .clear)

/-- DDATA: the answer byte on offer while DV is 1, and 00h otherwise (R176). -/
def Link.ddata (l : Link) : Byte := if l.dv then l.answer.getD l.sendPos 0 else 0

/-- GRANT: the holder's address, 0000 in FREE (R176). -/
def Link.grant (l : Link) : BitVec 4 := l.holder.getD 0#4

/-- What the part drives on DN in a frame that begins now; the first bit period is the most significant bit (R176, R192, log 7). -/
def State.downstream (s : State) : BitVec 32 :=
  s.link.grant ++ s.attentionBits ++ s.link.ddata ++ BitVec.ofBool s.link.dv ++ BitVec.ofBool s.link.da ++ 0x3FFF#14

/-- The next frame begins: DN carries the state as it now stands (R176, log 8). -/
def State.nextFrame (s : State) : State := { s with link.dn := s.downstream }

/-- A grant to address `a`: REQUEST, receive buffer empty, step FIRST; the fairness hold is cleared (R178, R180). -/
def State.giveGrant (s : State) (a : BitVec 4) : State :=
  { s with
    link.phase := .request, link.holder := some a, link.recvStep := .first, link.frames := 0, link.clearFrames := 0,
    link.recvBuf := [], link.overLength := false, link.fairness := none, rqh := ⟨none, none⟩ }

/-- A grant ends: FREE, the station under the fairness hold, the notes dropped (R175, R179, R180). -/
def State.endGrant (s : State) : State :=
  match s.link.holder with
  | some a => { s with link.phase := .free, link.holder := none, link.fairness := some ⟨a, 0⟩, rqh := ⟨none, none⟩ }
  | none => s

/-- An answer is composed and offered from the next frame: phase ANSWER (R183, R184, R186). -/
def State.startAnswer (s : State) (kindByte : Byte) (r : Reply) : State :=
  { s with
    link.phase := .answer, link.sendStep := .offer, link.frames := 0, link.sendPos := 0,
    link.answer := answerMessage kindByte r.status r.body }

/-- The counter an envelope refusal moves (R183). -/
def Counters.afterEnvelope (c : Counters) (st : Status) : Counters :=
  match st with
  | .length => { c with lengthErrors := bump 65535 c.lengthErrors }
  | .check => { c with checkErrors := bump 65535 c.checkErrors }
  | _ => c

/-- A message refused at the envelope: its counter moves and an empty-bodied answer is composed (R183). -/
def State.refuseEnvelope (s : State) (st : Status) : State :=
  State.startAnswer { s with counters := s.counters.afterEnvelope st } (s.link.recvBuf.getD 0 0) ⟨st, []⟩

/-- A request passed to the RQH: executed, and its answer composed (R184). -/
def State.serve (s : State) (k : Kind) (body : List Byte) : State :=
  let r := execute k s body
  r.1.startAnswer k.code r.2

/-- The end of the message in the receive buffer (R183, R184). -/
def State.messageEnd (s : State) : State :=
  match openEnvelope s.link.recvBuf s.link.overLength with
  | .refused st => s.refuseEnvelope st
  | .request k body => s.serve k body

/-! ## Contention (R178, R179) -/

/-- The resolved address judged: granted, discarded or ignored (R178). -/
def State.judgeContention (s : State) (a : BitVec 4) : State :=
  if a = 0#4 ∨ s.positionOf a = none then
    { s with counters.unknownContentions := bump 65535 s.counters.unknownContentions }
  else if s.link.fairness.map (·.address) = some a then
    { s with counters.fairnessDiscards := bump 65535 s.counters.fairnessDiscards }
  else s.giveGrant a

/-- The fairness hold at the end of a free frame: the count increases, and at 2 the hold is cleared (R179). -/
def State.countFreeFrame (s : State) : State :=
  match s.link.fairness with
  | some h =>
    if h.freeFrames + 1 < 2 then { s with link.fairness := some ⟨h.address, h.freeFrames + 1⟩ }
    else { s with link.fairness := none }
  | none => s

/-- The end of a free frame, in which `a` was resolved or no contention took place (R178, R179). -/
def State.freeFrame (s : State) (a : Option (BitVec 4)) : State :=
  State.countFreeFrame (match a with
    | some a => s.judgeContention a
    | none => s)

/-! ## Ends of a grant (R187 to R189) -/

/-- The removal a TAKE NOTICE noted (R167). -/
def State.commitNotice (s : State) : State :=
  match s.rqh.notice with
  | some n =>
    if (s.station n.position).pendingSet.has n.district then (s.dropPending n.position n.district).endCleared n.district
    else s
  | none => s

/-- The clearing a READ EVENTS noted (R169). -/
def State.commitEvents (s : State) : State :=
  match s.rqh.events with
  | some n => s.modStation n.position (fun st => { st with flags := st.flags &&& ~~~ n.flags })
  | none => s

/-- Answer completion: the side effects are committed and the grant ends (R187). -/
def State.completeAnswer (s : State) : State := s.commitNotice.commitEvents.endGrant

/-- The present step waits on the station, so it is timed (R188). -/
def Link.timedStep (l : Link) : Bool :=
  match l.phase with
  | .request => decide (l.recvStep ≠ .byte)
  | .answer => true
  | .free | .trailer => false

/-- A handshake step times out (R188). -/
def State.timeOut (s : State) : State :=
  let s1 : State := { s with counters.handshakeTimeouts := bump 65535 s.counters.handshakeTimeouts }
  let s2 := match s1.requester with
    | some p => s1.raiseAt .linkFault p
    | none => s1
  s2.endGrant

/-- A break ends the grant (R189): the message or answer is abandoned. -/
def State.breakGrant (s : State) : State := s.endGrant

/-! ## The byte handshake (R181, R182, R186) -/

/-- A frame that leaves the station's step unmet: it counts, and the 64th times the step out (R188). -/
def State.waitFrame (s : State) : State :=
  if s.link.frames + 1 < 64 then { s with link.frames := s.link.frames + 1 } else s.timeOut

/-- A byte taken: appended while the buffer holds fewer than 64, else discarded and the buffer marked (R182). -/
def State.takeByte (s : State) (b : Byte) : State :=
  if s.link.recvBuf.length < 64 then { s with link.recvBuf := s.link.recvBuf ++ [b] }
  else { s with link.overLength := true }

/-- The frame end in REQUEST, not a break frame (R181). -/
def State.requestFrame (s : State) (uv : Bool) (udata : Byte) : State :=
  match s.link.recvStep, uv with
  | .first, true | .byte, true => { s.takeByte udata with link.recvStep := .clear, link.frames := 0 }
  | .first, false | .clear, true => s.waitFrame
  | .clear, false => { s with link.recvStep := .byte, link.clearFrames := 0, link.frames := 0 }
  | .byte, false =>
    let s1 : State := { s with link.clearFrames := s.link.clearFrames + 1 }
    if s1.link.clearFrames < 3 then s1 else s1.messageEnd

/-- The frame end in ANSWER, not a break frame (R186). -/
def State.answerFrame (s : State) (ua : Bool) : State :=
  match s.link.sendStep, ua with
  | .offer, true => { s with link.sendStep := .release, link.frames := 0 }
  | .offer, false => s.waitFrame
  | _, true => s.waitFrame
  | _, false =>
    if s.link.sendPos + 1 < s.link.answer.length then
      { s with link.sendStep := .offer, link.sendPos := s.link.sendPos + 1, link.frames := 0 }
    else { s with link.phase := .trailer, link.frames := 0 }

/-- The frame end in TRAILER; `ends` is set when a break ends the grant there (R187, R189). -/
def State.trailerFrame (s : State) (ends : Bool) : State :=
  if ends then s.breakGrant
  else if s.link.frames + 1 < 2 then { s with link.frames := s.link.frames + 1 }
  else s.completeAnswer

/-- A break frame during REQUEST or ANSWER (R177, R188, R189): no step is taken, the frame counts toward a timed step,
a step that times out ends the grant as a timeout, and the second consecutive break frame ends the grant as a break. -/
def State.breakFrame (s : State) : State :=
  if s.link.timedStep && decide (64 ≤ s.link.frames + 1) then s.timeOut
  else if 2 ≤ s.link.breakRun then s.breakGrant
  else if s.link.timedStep then { s with link.frames := s.link.frames + 1 }
  else s

/-! ## The frame end (R176, R177) -/

/-- Bit period `k` of a frame read on UP; the first bit period is the most significant bit (R192, log 7). -/
def upBit (up : BitVec 32) (k : Nat) : Bool := up.getMsbD k

/-- The frame is a break frame: UP reads 0 in bit periods 24 to 31 (R177). -/
def isBreakFrame (up : BitVec 32) : Bool := decide (up.extractLsb' 0 8 = 0#8)

/-- UDATA: bit periods 8 to 15 (R192). -/
def udataOf (up : BitVec 32) : Byte := up.extractLsb' 16 8

/-- The resolved address of a free frame: bit periods 0 to 3, when bit period 16 read 0 in a frame that is no break frame (R178). -/
def contenderOf (up : BitVec 32) : Option (BitVec 4) :=
  if isBreakFrame up || upBit up 16 then none else some (up.extractLsb' 28 4)

/-- The break run after a frame; a run that reaches 16 counts one link break (R177). -/
def State.countBreak (s : State) (isBreak : Bool) : State :=
  if isBreak then
    if s.link.breakRun < 16 then
      if s.link.breakRun + 1 = 16 then
        { s with link.breakRun := 16, counters.linkBreaks := bump 65535 s.counters.linkBreaks }
      else { s with link.breakRun := s.link.breakRun + 1 }
    else s
  else { s with link.breakRun := 0 }

/-- The frame end (R176): the break run, and then what UP carried, by the grant phase. -/
def State.frameEnd (s : State) (up : BitVec 32) : State :=
  let brk := isBreakFrame up
  let s1 := s.countBreak brk
  State.nextFrame (match s1.link.phase with
    | .free => s1.freeFrame (contenderOf up)
    | .request => if brk then s1.breakFrame else s1.requestFrame (upBit up 16) (udataOf up)
    | .answer => if brk then s1.breakFrame else s1.answerFrame (upBit up 17)
    | .trailer => s1.trailerFrame (brk && decide (2 ≤ s1.link.breakRun)))

/-! ## A message taken whole -/

/-- The SLI at the frame end at which the holder's message ends, with that message received: the first 64 bytes in the buffer,
the over-length mark set if there were more (R181, R182; log 4). -/
def State.received (s : State) (message : List Byte) : State :=
  { s with
    link.recvStep := .byte, link.clearFrames := 3, link.frames := 0, link.breakRun := 0,
    link.recvBuf := message.take 64, link.overLength := decide (64 < message.length) }

/-- The holder of the grant sends a request of kind `k` with this body, and its message ends (R181 to R184).
Outside REQUEST no station can send one. -/
def State.request (s : State) (k : Kind) (body : List Byte) : State :=
  if s.link.phase = .request then (s.received (requestMessage k body)).messageEnd.nextFrame else s

end Sys2Proof.Machine
end

