-- ==== Sys2Proof/Machine/Events.lean ====
section
/-!
DEFINITION. The meaning of each event row of the opcode table. An event that does not apply in the state it meets leaves no
trace (R5, log 2). A row of the station link is one frame end, after which the next frame begins (log 4).
-/

namespace Sys2Proof.Machine

/-- The operation of an event row that is one frame end of the link. -/
def frameRow (applies : Bool) (f : State → State) (s : State) : State := if applies then (f s).nextFrame else s

/-- An event row that is the end of a frame that is no break frame: the break run returns to 0 (R177, log 4). -/
def quietRow (applies : Bool) (f : State → State) (s : State) : State :=
  frameRow applies (fun s => f { s with link.breakRun := 0 }) s

/-- POWER_ON_RESET (R1, R158, R175): every block at its reset value, the strap sampled; what waits in the queue is the sender's. -/
def execPowerOnReset (strap : BitVec 4) (s : State) : StepOutcome :=
  .next { State.afterReset strap with pending := s.pending, freeCount := s.freeCount }

/-- RSTN_HELD_LOW (R176): the part keeps no state until release, and DN is held at 1. The fields read as at reset meanwhile (log 12). -/
def execRstnHeldLow (s : State) : StepOutcome :=
  .next { State.afterReset 0#4 with
    running := false, link.dn := 0xFFFFFFFF#32, pending := s.pending, freeCount := s.freeCount }

/-- MINUTE_EVENT (R2): the divider reaches one minute. The row asserts the minute, whatever the divider holds
(DESIGN CHOICE, unsafe, log 27). -/
def execMinuteEvent (s : State) : StepOutcome := taken State.minuteEvent s

/-- WINDOW_START (R5, R6, R7): the clock stands at the eligible window start of its own day. The row asserts that the clock reached it,
also where a request placed the clock or the window start so (R13, R15; DESIGN CHOICE, unsafe, log 28). -/
def execWindowStart (s : State) : StepOutcome :=
  taken (fun s =>
    if s.nck.clock = s.windowStartOf s.nck.clock.day ∧ s.eligible s.nck.clock.day = true then
      s.reachWindowStart s.nck.clock.day
    else s) s

/-- The clock stands at a boundary time of the current night. -/
def State.atBoundary (s : State) (time : State → Nat → ClockTime) : Bool :=
  match s.nck.nightDay with
  | some n => decide (s.nck.clock = time s n)
  | none => false

/-- WINDOW_END (R5, R8): the clock stands at the window end of the current night. -/
def execWindowEnd (s : State) : StepOutcome :=
  taken (fun s => if s.atBoundary State.windowEndOf then s.reachWindowEnd else s) s

/-- GRACE_EXPIRY (R5, R9): the clock stands at the grace expiry of the current night. -/
def execGraceExpiry (s : State) : StepOutcome :=
  taken (fun s => if s.atBoundary State.graceExpiryOf then s.reachGraceExpiry else s) s

/-- HOLD_EXPIRY (R18): the clock has reached the expiry time of the hold on district `d`. -/
def execHoldExpiry (d : District) (s : State) : StepOutcome :=
  taken (fun s => State.expireIfReached s.nck.clock s d) s

/-- CHOICE (R86, R87). -/
def execChoice (s : State) : StepOutcome := taken State.choose s

/-- EVALUATION_COMPLETION (R89). -/
def execEvaluationCompletion (s : State) : StepOutcome := taken State.completeEvaluation s

/-- CONTENTION (R178, R179): the end of a free frame in which `a` was resolved. -/
def execContention (a : BitVec 4) (s : State) : StepOutcome :=
  taken (fun s => quietRow (decide (s.link.phase = .free)) (fun s => s.freeFrame (some a)) s) s

/-- FAIRNESS_HOLD_CLEARED (R179): the free-frame count of the hold reaches 2. -/
def execFairnessHoldCleared (s : State) : StepOutcome :=
  taken (fun s => quietRow (decide (s.link.phase = .free)) (fun s => { s with link.fairness := none }) s) s

/-- ENVELOPE_CHECK_REFUSAL (R183): the message received in REQUEST ends and fails an envelope check. -/
def execEnvelopeCheckRefusal (message : List Byte) (s : State) : StepOutcome :=
  taken (fun s =>
    match openEnvelope (message.take 64) (decide (64 < message.length)) with
    | .refused st =>
      frameRow (decide (s.link.phase = .request) && !message.isEmpty) (fun s => (s.received message).refuseEnvelope st) s
    | .request _ _ => s) s

/-- ANSWER_COMPLETION (R187): the second frame of TRAILER ends. -/
def execAnswerCompletion (s : State) : StepOutcome :=
  taken (fun s => quietRow (decide (s.link.phase = .trailer)) State.completeAnswer s) s

/-- HANDSHAKE_TIMEOUT (R188): the 64th frame of a step that waits on the station ends. -/
def execHandshakeTimeout (s : State) : StepOutcome :=
  taken (fun s => quietRow s.link.timedStep State.timeOut s) s

/-- BREAK_ENDS_GRANT (R189): the second consecutive break frame during a grant ends. -/
def execBreakEndsGrant (s : State) : StepOutcome :=
  taken (fun s => frameRow (decide (s.link.phase ≠ .free))
    (fun s => State.breakGrant { s with link.breakRun := 2 }) s) s

/-- LINK_BREAK (R177): the break run reaches 16 frames; a longer run is counted once. The second frame of such a run has ended any grant
(R189), so the sixteenth is a free frame, and the free frames before it have cleared any fairness hold (R179, log 4). -/
def execLinkBreak (s : State) : StepOutcome :=
  taken (fun s => frameRow (decide (s.link.phase = .free) && decide (s.link.breakRun < 16))
    (fun s => { s with
      link.breakRun := 16, link.fairness := none, counters.linkBreaks := bump 65535 s.counters.linkBreaks }) s) s

/-- FRAME_END (R176, R177, R178 to R189): one whole frame end, UP having read `up`. -/
def execFrameEnd (up : BitVec 32) (s : State) : StepOutcome := taken (fun s => s.frameEnd up) s

end Sys2Proof.Machine
end

