-- ==== Sys2Proof/Machine/Requests.lean ====
section
/-!
DEFINITION. The meaning of each request row of the opcode table: the holder of the grant sends the message and it is judged,
executed and answered (R183, R184). The rule of each request is the definition of its name in the family files.
-/

namespace Sys2Proof.Machine

/-- SET_TIME (R11 to R14). -/
def execSetTime (body : List Byte) (s : State) : StepOutcome := taken (fun s => s.request .setTime body) s

/-- SET_WINDOW (R15). -/
def execSetWindow (body : List Byte) (s : State) : StepOutcome := taken (fun s => s.request .setWindow body) s

/-- CLOSE_NIGHT (R16). -/
def execCloseNight (body : List Byte) (s : State) : StepOutcome := taken (fun s => s.request .closeNight body) s

/-- RESTART_ENGINE (R17). -/
def execRestartEngine (body : List Byte) (s : State) : StepOutcome := taken (fun s => s.request .restartEngine body) s

/-- BIND_METER (R23, R24). -/
def execBindMeter (body : List Byte) (s : State) : StepOutcome := taken (fun s => s.request .bindMeter body) s

/-- ENABLE_METER (R25, R26). -/
def execEnableMeter (body : List Byte) (s : State) : StepOutcome := taken (fun s => s.request .enableMeter body) s

/-- DISABLE_METER (R27, R28). -/
def execDisableMeter (body : List Byte) (s : State) : StepOutcome := taken (fun s => s.request .disableMeter body) s

/-- READ_METER (R37). -/
def execReadMeter (body : List Byte) (s : State) : StepOutcome := taken (fun s => s.request .readMeter body) s

/-- READ_STRAY_LIST (R36). -/
def execReadStrayList (body : List Byte) (s : State) : StepOutcome := taken (fun s => s.request .readStrayList body) s

/-- FORGET_STRAYS (R35). -/
def execForgetStrays (body : List Byte) (s : State) : StepOutcome := taken (fun s => s.request .forgetStrays body) s

/-- POST_READING (R41 to R50, R185). -/
def execPostReading (body : List Byte) (s : State) : StepOutcome := taken (fun s => s.request .postReading body) s

/-- POST_PRESSURE (R51 to R53). -/
def execPostPressure (body : List Byte) (s : State) : StepOutcome := taken (fun s => s.request .postPressure body) s

/-- CONFIGURE_DISTRICT (R66, R67). -/
def execConfigureDistrict (body : List Byte) (s : State) : StepOutcome := taken (fun s => s.request .configureDistrict body) s

/-- HOLD_DISTRICT (R73). -/
def execHoldDistrict (body : List Byte) (s : State) : StepOutcome := taken (fun s => s.request .holdDistrict body) s

/-- RELEASE_DISTRICT (R74). -/
def execReleaseDistrict (body : List Byte) (s : State) : StepOutcome := taken (fun s => s.request .releaseDistrict body) s

/-- READ_DISTRICT (R80). -/
def execReadDistrict (body : List Byte) (s : State) : StepOutcome := taken (fun s => s.request .readDistrict body) s

/-- READ_RESULT (R81). -/
def execReadResult (body : List Byte) (s : State) : StepOutcome := taken (fun s => s.request .readResult body) s

/-- READ_QUEUE (R84). -/
def execReadQueue (body : List Byte) (s : State) : StepOutcome := taken (fun s => s.request .readQueue body) s

/-- SET_BASELINE_MODE (R128, R129). -/
def execSetBaselineMode (body : List Byte) (s : State) : StepOutcome := taken (fun s => s.request .setBaselineMode body) s

/-- LOAD_RING (R130, R131). -/
def execLoadRing (body : List Byte) (s : State) : StepOutcome := taken (fun s => s.request .loadRing body) s

/-- CLEAR_RING (R132). -/
def execClearRing (body : List Byte) (s : State) : StepOutcome := taken (fun s => s.request .clearRing body) s

/-- READ_RING (R134). -/
def execReadRing (body : List Byte) (s : State) : StepOutcome := taken (fun s => s.request .readRing body) s

/-- ACKNOWLEDGE (R150, R151). -/
def execAcknowledge (body : List Byte) (s : State) : StepOutcome := taken (fun s => s.request .acknowledge body) s

/-- MARK_REPAIRED (R152, R153). -/
def execMarkRepaired (body : List Byte) (s : State) : StepOutcome := taken (fun s => s.request .markRepaired body) s

/-- READ_WATCH (R157). -/
def execReadWatch (body : List Byte) (s : State) : StepOutcome := taken (fun s => s.request .readWatch body) s

/-- SET_STATION (R161, R162). -/
def execSetStation (body : List Byte) (s : State) : StepOutcome := taken (fun s => s.request .setStation body) s

/-- SET_EVENT_MASK (R163). -/
def execSetEventMask (body : List Byte) (s : State) : StepOutcome := taken (fun s => s.request .setEventMask body) s

/-- TAKE_NOTICE (R166). -/
def execTakeNotice (body : List Byte) (s : State) : StepOutcome := taken (fun s => s.request .takeNotice body) s

/-- READ_EVENTS (R169). -/
def execReadEvents (body : List Byte) (s : State) : StepOutcome := taken (fun s => s.request .readEvents body) s

/-- READ_STATUS (R172). -/
def execReadStatus (body : List Byte) (s : State) : StepOutcome := taken (fun s => s.request .readStatus body) s

/-- CLEAR_COUNTERS (R173). -/
def execClearCounters (body : List Byte) (s : State) : StepOutcome := taken (fun s => s.request .clearCounters body) s

/-- UNBIND_METER (R24): BIND METER with identifier 0 and both links absent. -/
def execUnbindMeter (slot : Byte) (s : State) : StepOutcome :=
  taken (fun s => s.request .bindMeter [slot, 0, 0, 0, 0, 0, 0, 0]) s

/-- SET_SERVICE_OUT (R68, R69): SET SERVICE with requested state OUT. -/
def execSetServiceOut (district : Byte) (s : State) : StepOutcome :=
  taken (fun s => s.request .setService [district, 0]) s

/-- SET_SERVICE_IN (R68, R70): SET SERVICE with requested state IN. -/
def execSetServiceIn (district : Byte) (s : State) : StepOutcome :=
  taken (fun s => s.request .setService [district, 1]) s

end Sys2Proof.Machine
end

