-- ==== Sys2Proof/Machine/Dispatch.lean ====
section
/-!
DEFINITION. What each command does: one arm per row of the opcode table.
-/

namespace Sys2Proof.Machine

def exec (i : Instr) (s : State) : Host.Outcome State Fault Refusal :=
  match i with
  | .powerOnReset strap => Sys2Proof.Machine.execPowerOnReset strap s
  | .minuteEvent => Sys2Proof.Machine.execMinuteEvent s
  | .windowStart => Sys2Proof.Machine.execWindowStart s
  | .windowEnd => Sys2Proof.Machine.execWindowEnd s
  | .graceExpiry => Sys2Proof.Machine.execGraceExpiry s
  | .holdExpiry district => Sys2Proof.Machine.execHoldExpiry district s
  | .choice => Sys2Proof.Machine.execChoice s
  | .evaluationCompletion => Sys2Proof.Machine.execEvaluationCompletion s
  | .contention address => Sys2Proof.Machine.execContention address s
  | .fairnessHoldCleared => Sys2Proof.Machine.execFairnessHoldCleared s
  | .envelopeCheckRefusal message => Sys2Proof.Machine.execEnvelopeCheckRefusal message s
  | .answerCompletion => Sys2Proof.Machine.execAnswerCompletion s
  | .handshakeTimeout => Sys2Proof.Machine.execHandshakeTimeout s
  | .breakEndsGrant => Sys2Proof.Machine.execBreakEndsGrant s
  | .linkBreak => Sys2Proof.Machine.execLinkBreak s
  | .setTime body => Sys2Proof.Machine.execSetTime body s
  | .setWindow body => Sys2Proof.Machine.execSetWindow body s
  | .closeNight body => Sys2Proof.Machine.execCloseNight body s
  | .restartEngine body => Sys2Proof.Machine.execRestartEngine body s
  | .bindMeter body => Sys2Proof.Machine.execBindMeter body s
  | .unbindMeter slot => Sys2Proof.Machine.execUnbindMeter slot s
  | .enableMeter body => Sys2Proof.Machine.execEnableMeter body s
  | .disableMeter body => Sys2Proof.Machine.execDisableMeter body s
  | .readMeter body => Sys2Proof.Machine.execReadMeter body s
  | .readStrayList body => Sys2Proof.Machine.execReadStrayList body s
  | .forgetStrays body => Sys2Proof.Machine.execForgetStrays body s
  | .postReading body => Sys2Proof.Machine.execPostReading body s
  | .postPressure body => Sys2Proof.Machine.execPostPressure body s
  | .configureDistrict body => Sys2Proof.Machine.execConfigureDistrict body s
  | .setServiceOut district => Sys2Proof.Machine.execSetServiceOut district s
  | .setServiceIn district => Sys2Proof.Machine.execSetServiceIn district s
  | .holdDistrict body => Sys2Proof.Machine.execHoldDistrict body s
  | .releaseDistrict body => Sys2Proof.Machine.execReleaseDistrict body s
  | .readDistrict body => Sys2Proof.Machine.execReadDistrict body s
  | .readResult body => Sys2Proof.Machine.execReadResult body s
  | .readQueue body => Sys2Proof.Machine.execReadQueue body s
  | .setBaselineMode body => Sys2Proof.Machine.execSetBaselineMode body s
  | .loadRing body => Sys2Proof.Machine.execLoadRing body s
  | .clearRing body => Sys2Proof.Machine.execClearRing body s
  | .readRing body => Sys2Proof.Machine.execReadRing body s
  | .acknowledge body => Sys2Proof.Machine.execAcknowledge body s
  | .markRepaired body => Sys2Proof.Machine.execMarkRepaired body s
  | .readWatch body => Sys2Proof.Machine.execReadWatch body s
  | .setStation body => Sys2Proof.Machine.execSetStation body s
  | .setEventMask body => Sys2Proof.Machine.execSetEventMask body s
  | .takeNotice body => Sys2Proof.Machine.execTakeNotice body s
  | .readEvents body => Sys2Proof.Machine.execReadEvents body s
  | .readStatus body => Sys2Proof.Machine.execReadStatus body s
  | .clearCounters body => Sys2Proof.Machine.execClearCounters body s
  | .frameEnd up => Sys2Proof.Machine.execFrameEnd up s
  | .rstnHeldLow => Sys2Proof.Machine.execRstnHeldLow s

end Sys2Proof.Machine
end

