-- ==== Sys2Proof/Safety.lean ====
section
/-!
DEFINITION. The terms in which claims about the part are stated: the laws that the manual says the state keeps, and what a
request looks like from the station's side (who asks, what the answer leaves on the link).
-/

namespace Sys2Proof.Machine

/-! ## The Night Clock (R1, R4, R5) -/

/-- The ranges and laws of R1, and the night mark of a night in progress (R4). -/
abbrev ClockLaw (s : State) : Prop :=
  s.nck.clock.day ≤ 65535 ∧ s.nck.clock.minute ≤ 1439 ∧ s.nck.divider ≤ 1966079 ∧
  s.nck.wstart ≤ 95 ∧ 4 ≤ s.nck.wlen ∧ s.nck.wlen ≤ 16 ∧ s.nck.grace ≤ 48 ∧ s.nck.wstart + s.nck.wlen ≤ 96 ∧
  (s.nck.phase = .stopped ↔ s.nck.clockSet = false) ∧
  (s.nck.clockSet = false → s.nck.clock = ⟨0, 0⟩ ∧ s.nck.divider = 0) ∧
  (s.nightInProgress = true → s.nck.nightDay ≠ none) ∧
  s.nck.nightDay.all (fun n => decide (n ≤ 65535)) = true ∧
  (s.nightInProgress = true → s.nck.nightMark = s.nck.nightDay.map s.graceExpiryOf) ∧
  (s.nck.nightMark = none ↔ s.nck.nightDay = none)

/-- Where the clock stands in the night by its phase (R5): in COLLECTING from the window start to before the window end,
in SETTLING from the window end to before the grace expiry, in CLOSING at or after the window end. -/
abbrev NightPositionLaw (s : State) : Prop :=
  (s.nck.phase = .collecting → s.nck.nightDay.all (fun n =>
    decide (ClockTime.NotAfter (s.windowStartOf n) s.nck.clock ∧ ClockTime.Before s.nck.clock (s.windowEndOf n))) = true) ∧
  (s.nck.phase = .settling → s.nck.nightDay.all (fun n =>
    decide (ClockTime.NotAfter (s.windowEndOf n) s.nck.clock ∧ ClockTime.Before s.nck.clock (s.graceExpiryOf n))) = true) ∧
  (s.nck.phase = .closing → s.nck.nightDay.all (fun n => decide (ClockTime.NotAfter (s.windowEndOf n) s.nck.clock)) = true)

/-! ## Districts (R62, R63, R72) -/

/-- The ranges of the eleven parameters, and M no greater than WLEN (R63). -/
abbrev ParamsInRange (wlen : Nat) (p : Params) : Prop :=
  p.properties ≤ 65535 ∧ p.allowance ≤ 1000 ∧ 1 ≤ p.pRef ∧ p.pRef ≤ 2000 ∧ 1 ≤ p.m ∧ p.m ≤ 4 ∧ p.m ≤ wlen ∧
  p.tAbs ≤ 65535 ∧ p.tRel ≤ 255 ∧ 2 ≤ p.burst ∧ p.burst ≤ 16 ∧ 1 ≤ p.nConfirm ∧ p.nConfirm ≤ 7 ∧
  1 ≤ p.gapLimit ∧ p.gapLimit ≤ 7 ∧ p.subLim ≤ 100

/-- Every district's parameters are in range (R63), and every hold's expiry is a clock time at most one day past the calendar (R72). -/
abbrev DistrictLaw (s : State) : Prop :=
  ∀ d : District, ParamsInRange s.nck.wlen (s.district d).params ∧
    (s.district d).hold.all (fun h => decide (h.expiry.day ≤ 65536) && decide (h.expiry.minute ≤ 1439)) = true

/-! ## Night states, queue and flight (R64, R76, R79, R82, R83, R88) -/

/-- A district stands in the night that is in progress: OPEN, QUEUED or EVALUATING. -/
abbrev State.Unclosed (s : State) (d : District) : Prop :=
  (s.district d).nightState = .opened ∨ (s.district d).nightState = .queued ∨ (s.district d).nightState = .evaluating

/-- The Evaluation Queue agrees with the night states and holds no district twice (R83); the district in flight is the one
that is EVALUATING (R88) and is not held (R76); a choice is due only while the unit is IDLE (R85);
outside SETTLING and CLOSING nothing is queued or in flight, outside a night nothing is OPEN, in CLOSING nothing is OPEN (R9, R10);
a district that takes part in nights is in service (R64). -/
abbrev QueueLaw (s : State) : Prop :=
  (s.queue.map (·.district)).Nodup ∧
  (∀ d : District, (s.district d).nightState = .queued ↔ d ∈ s.queue.map (·.district)) ∧
  (∀ d : District, (s.district d).nightState = .evaluating ↔ s.flight.map (·.district) = some d) ∧
  s.flight.all (fun f => (s.district f.district).hold.isNone) = true ∧
  (s.choiceDue = true → s.flight = none) ∧
  (s.nck.phase ≠ .settling → s.nck.phase ≠ .closing → s.queue = [] ∧ s.flight = none) ∧
  (s.nck.phase ≠ .collecting → s.nck.phase ≠ .settling → ∀ d : District, (s.district d).nightState ≠ .opened) ∧
  (∀ d : District, (s.district d).inService = false → (s.district d).nightState = .idle)

/-- A published result names a night that has begun, and a district still to be closed has published nothing for the
current night (R79); the snapshot in flight is of the current night (R87). -/
abbrev ResultLaw (s : State) : Prop :=
  (∀ d : District, (s.district d).result.all (fun r => s.nck.nightDay.any (fun n => decide (r.nightDay ≤ n))) = true) ∧
  (∀ d : District, s.Unclosed d →
    (s.district d).result.all (fun r => s.nck.nightDay.any (fun n => decide (r.nightDay < n))) = true) ∧
  s.flight.all (fun f => decide (s.nck.nightDay = some f.snapshot.nightDay)) = true

/-! ## Leak Watch (R136 to R138) -/

/-- The counts and alerts that stand beside a watch state (R137, R138), with N_confirm `n`. -/
abbrev WatchConsistent (n : Nat) (w : Watch) : Prop :=
  w.gap ≤ 255 ∧
  (w.state = .out → w.excess = 0 ∧ w.gap = 0 ∧ w.alert = .none) ∧
  (w.state = .learning ∨ w.state = .quiet → w.excess = 0) ∧
  (w.state = .watch ∨ w.state = .alerted → 1 ≤ w.excess) ∧
  w.excess ≤ n ∧
  (w.state = .learning ∨ w.state = .quiet ∨ w.state = .watch → w.alert = .none ∨ w.alert = .dataLoss ∨ w.alert = .cleared) ∧
  (w.state = .alerted ∨ w.state = .acknowledged → w.alert = .rising ∨ w.alert = .burst)

/-- Every watch is as R137 gives it, and OUT exactly while its district is out of service. -/
abbrev WatchLaw (s : State) : Prop :=
  ∀ d : District, WatchConsistent (s.district d).params.nConfirm (s.watch d) ∧
    ((s.watch d).state = .out ↔ (s.district d).inService = false)

/-! ## Notices (R142, R164) -/

/-- A CLEARED alert is pending at some position (R142); a pending district is subscribed to and its alert is not NONE (R164). -/
abbrev NoticeLaw (s : State) : Prop :=
  (∀ d : District, (s.watch d).alert = .cleared → ∃ p : Position, (s.station p).pendingSet.has d = true) ∧
  (∀ p : Position, ∀ d : District, (s.station p).pendingSet.has d = true →
    (s.station p).role ≠ none ∧ (s.station p).subscription.has d = true ∧ (s.watch d).alert ≠ .none)

/-! ## Station Table and link (R158, R159, R161, R175, R178) -/

/-- A free position is empty throughout (R158). -/
abbrev Station.FreeIsEmpty (st : Station) : Prop := st.role = none → st = freeStation

/-- The Station Table: position 0 is the telemetry controller with its fixed fields (R159), positions 1..3 never hold TELEMETRY (R159),
their occupied addresses are not 0, and no two occupied positions hold one address (R158, R161). -/
abbrev StationLaw (s : State) : Prop :=
  (s.station 0).role = some .telemetry ∧ (s.station 0).subscription = 0xFFFFFFFF#32 ∧ (s.station 0).kindMask = 0xF#4 ∧
  (∀ p : Position, p ≠ 0 → (s.station p).role ≠ some .telemetry ∧ (s.station p).FreeIsEmpty ∧
    ((s.station p).role ≠ none → (s.station p).address ≠ 0#4)) ∧
  (∀ p q : Position, (s.station p).role ≠ none → (s.station q).role ≠ none →
    (s.station p).address = (s.station q).address → p = q)

/-- The SLI: the holder is present exactly while the phase is not FREE, with a non-zero address of an occupied position (R175, R178);
the ranges of R175; no grant outlasts a second break frame (R189); the counters stop at 65,535 (R171). -/
abbrev LinkLaw (s : State) : Prop :=
  (s.link.phase = .free ↔ s.link.holder = none) ∧
  s.link.holder.all (fun a => decide (a ≠ 0#4 ∧ ∃ p : Position, (s.station p).role ≠ none ∧ (s.station p).address = a)) = true ∧
  s.link.frames ≤ 64 ∧ s.link.clearFrames ≤ 3 ∧ (s.link.phase = .request → s.link.clearFrames ≤ 2) ∧
  s.link.recvBuf.length ≤ 64 ∧ s.link.answer.length ≤ 96 ∧ s.link.breakRun ≤ 16 ∧
  (s.link.phase ≠ .free → s.link.breakRun ≤ 1) ∧
  s.link.fairness.all (fun h => decide (h.freeFrames ≤ 2)) = true ∧
  (s.link.phase = .answer ∨ s.link.phase = .trailer → s.link.sendPos < s.link.answer.length) ∧
  s.counters.checkErrors ≤ 65535 ∧ s.counters.lengthErrors ≤ 65535 ∧ s.counters.unknownContentions ≤ 65535 ∧
  s.counters.fairnessDiscards ≤ 65535 ∧ s.counters.handshakeTimeouts ≤ 65535 ∧ s.counters.linkBreaks ≤ 65535 ∧
  s.counters.readingsStored ≤ 65535 ∧ s.counters.readingsLate ≤ 65535 ∧ s.counters.unknownMeters ≤ 65535

/-! ## Meter Directory, Reading Grid, Baseline Store (R21, R25, R33, R38, R40, R124) -/

/-- The slot has a link, primary or secondary, that names district `d` (R22). -/
abbrev Slot.Names (sl : Slot) (d : District) : Prop :=
  sl.primary.map (·.district) = some d ∨ sl.secondary.map (·.district) = some d

/-- A cell is in range, and an EMPTY cell holds volume 0 (R38). -/
abbrev Cell.InRange (c : Cell) : Prop := c.volume ≤ 1048575 ∧ (c.state = .empty → c.volume = 0)

/-- A slot record is as R21 gives it. -/
abbrev Slot.Consistent (sl : Slot) : Prop :=
  (sl.identifier = 0 → sl = unboundSlot) ∧
  (sl.identifier ≠ 0 → sl.primary ≠ none ∧ sl.primary.map (·.district) ≠ sl.secondary.map (·.district)) ∧
  sl.identifier ≤ 4294967295 ∧ sl.heldMean.all (fun m => decide (m ≤ 1048575)) = true ∧
  sl.duplicates ≤ 255 ∧ sl.conflicts ≤ 255 ∧ ∀ c : Fin 16, (sl.cells.get c).InRange

/-- The Meter Directory: consistent slots, no identifier enabled twice, and a stray list of at most 8 distinct identifiers, none of them
of an enabled slot (R21, R25, R33). -/
abbrev DirectoryLaw (s : State) : Prop :=
  (∀ i : SlotIndex, (s.slot i).Consistent) ∧
  (∀ i j : SlotIndex, (s.slot i).enabled = true → (s.slot j).enabled = true →
    (s.slot i).identifier = (s.slot j).identifier → i = j) ∧
  s.strays.length ≤ 8 ∧ (s.strays.map (·.identifier)).Nodup ∧
  (∀ x ∈ s.strays, 1 ≤ x.identifier ∧ x.identifier ≤ 4294967295 ∧ 1 ≤ x.count ∧ x.count ≤ 255 ∧ x.day ≤ 65535 ∧
    ∀ i : SlotIndex, (s.slot i).enabled = true → (s.slot i).identifier ≠ x.identifier)

/-- A baseline record: at most 8 entries in strictly increasing order of night day, night days 0..65,535, figures in the signed 32-bit range,
rank 1..4, fixed value 0..16,777,215 (R123, R124). -/
abbrev RingLaw (s : State) : Prop :=
  ∀ d : District, (s.baseline d).ring.length ≤ 8 ∧ ((s.baseline d).ring.map (·.nightDay)).Pairwise (· < ·) ∧
    (∀ e ∈ (s.baseline d).ring, e.nightDay ≤ 65535 ∧ -2147483648 ≤ e.figure ∧ e.figure ≤ 2147483647) ∧
    1 ≤ (s.baseline d).rank ∧ (s.baseline d).rank ≤ 4 ∧ (s.baseline d).fixed ≤ 16777215

/-- Pressures are 0..2,000: in every pressure cell, held pressure and snapshot in flight (R40, R62, R98). -/
abbrev PressureLaw (s : State) : Prop :=
  (∀ d : District, ∀ c : Fin 16, ((s.pressure.get d).get c).all (fun v => decide (v ≤ 2000)) = true) ∧
  (∀ d : District, (s.district d).heldPressure.all (fun v => decide (v ≤ 2000)) = true) ∧
  s.flight.all (fun f => f.snapshot.pressure.all (fun v => v.all (fun x => decide (x ≤ 2000)))) = true

/-! ## What a claim says about a request -/

/-- The occupied position `p`, with role `r`, holds the grant and the part takes its request (R160, R180). -/
abbrev State.Asks (s : State) (p : Position) (r : StationRole) : Prop :=
  s.running = true ∧ s.link.phase = .request ∧ (s.station p).role = some r ∧
  s.link.holder = some (s.station p).address ∧
  ∀ q : Position, q ≠ p → (s.station q).role ≠ none → (s.station q).address ≠ (s.station p).address

/-- The part with the request message of kind `k` and this body received whole and its answer offered: phase ANSWER from the next frame,
the first answer byte on DDATA with DV 1 (R176, R181 to R184, R186, R192). -/
def State.answered (u : State) (k : Kind) (body : List Byte) (st : Status) (out : List Byte) : State :=
  { u with
    link.phase := .answer, link.recvStep := .byte, link.sendStep := .offer, link.frames := 0, link.clearFrames := 3,
    link.recvBuf := requestMessage k body, link.overLength := false, link.answer := answerMessage k.code st out,
    link.sendPos := 0, link.breakRun := 0,
    link.dn := u.link.holder.getD 0#4 ++ u.attentionBits ++ (k.code ||| 0x80#8) ++ 1#1 ++ 0#1 ++ 0x3FFF#14 }

/-- A request refused: nothing but the link changes, and the answer carries the status with an empty body (R184). -/
def State.refusal (s : State) (k : Kind) (body : List Byte) (st : Status) : State := s.answered k body st []

/-- Commands taken one after another, each as one step from the front of the queue (a command that stopped the part would leave it as it was). -/
def State.after (s : State) : List Instr → State
  | [] => s
  | c :: cs =>
    match exec c s with
    | .next t => State.after t cs
    | .fault _ | .refused _ => State.after s cs

/-- The clock placed at a time, nothing else changed. -/
def State.clockAt (s : State) (c : ClockTime) : State := { s with nck.clock := c }

/-- What UP carries in a frame of the holder's message: UDATA and UV as given, every other line released (R192). -/
def upFrame (uv : Bool) (udata : Byte) : BitVec 32 := 0xFF#8 ++ udata ++ BitVec.ofBool uv ++ 1#1 ++ 0x3FFF#14

/-- What UP carries in a frame of the answer: UA as given, every other line released (R192). -/
def uaFrame (ua : Bool) : BitVec 32 := 0xFFFF#16 ++ 1#1 ++ BitVec.ofBool ua ++ 0x3FFF#14

/-- District `d` is under an edit hold placed by a station other than the one at `p` (R75). -/
abbrev State.HeldByOther (s : State) (p : Position) (d : District) : Prop :=
  (s.district d).hold.any (fun h => decide (h.holder ≠ p)) = true

/-- District `d` is EVALUATING (R75). -/
abbrev State.IsEvaluating (s : State) (d : District) : Prop := (s.district d).nightState = .evaluating

/-- Alert kind `a` is in the kind mask `m`; NONE is in none (R158, R194). -/
def Alert.inMask (a : Alert) (m : BitVec 4) : Bool :=
  match a with
  | .none => false
  | .rising => m.getLsbD 0
  | .burst => m.getLsbD 1
  | .dataLoss => m.getLsbD 2
  | .cleared => m.getLsbD 3

/-- How urgent an alert is in the ranking of R166: BURST, RISING, DATA_LOSS, CLEARED. -/
def Alert.urgency : Alert → Nat
  | .burst => 4
  | .rising => 3
  | .dataLoss => 2
  | .cleared => 1
  | .none => 0

/-- What a request from `p` that names district `d` leads to, `u` being its effect: refused BUSY while the district is EVALUATING, else LOCKED
while another station holds it (R75). -/
def State.unlessGuarded (s : State) (p : Position) (d : District) (k : Kind) (body : List Byte) (u : State) : State :=
  if s.IsEvaluating d then s.refusal k body .busy else if s.HeldByOther p d then s.refusal k body .locked else u

/-- The note of a READ EVENTS after `raised` gives the flags raised again at each position since: those it no longer clears (R169).
A flag is raised for an occupied position only (R168). -/
def State.noteAfterRaising (s : State) (raised : Position → BitVec 5) : Option EventsNote :=
  s.rqh.events.map (fun n =>
    if (s.station n.position).role ≠ none then { n with flags := n.flags &&& ~~~ raised n.position } else n)

/-- Role `r` holds the right for requests of kind `k`: the table of R160. -/
abbrev StationRole.HoldsRight (r : StationRole) (k : Kind) : Prop :=
  r = .telemetry ∨
  (r = .service ∧ k ∉ [Kind.setTime, .setWindow, .restartEngine, .setStation, .clearCounters]) ∨
  (r = .gateway ∧ k = .postReading) ∨ (r = .pressure ∧ k = .postPressure) ∨
  k ∈ [Kind.readStatus, .readDistrict, .readResult, .readMeter, .readStrayList, .readQueue, .readRing, .readWatch, .takeNotice,
       .readEvents, .setEventMask]

/-! ## The packed body of POST READING (R185, R195) -/

/-- A reading entry as a sender packs it: with its own identifier or with that of the nearest earlier entry, and a day code. -/
structure PackedEntry where
  identifier : Option (BitVec 32)
  dayCode : Fin 4
  estimated : Bool
  interval : Fin 128
  volume : BitVec 24
  deriving DecidableEq, Repr

/-- The bytes of one entry: lead byte, identifier if it carries one, volume. -/
def PackedEntry.bytes (e : PackedEntry) : List Byte :=
  byte ((if e.estimated then 128 else 0) + e.interval.1) ::
    ((match e.identifier with
      | some i => be32 i.toNat
      | none => []) ++ be24 e.volume.toNat)

/-- A sum over the entries with their numbers, for the identifier mask and the day codes. -/
def packedSum (f : PackedEntry → Nat) (radix : Nat) : List PackedEntry → Nat
  | [] => 0
  | e :: es => f e + radix * packedSum f radix es

/-- The body of a POST READING with these entries and base day. -/
def packReadings (base : Nat) (es : List PackedEntry) : List Byte :=
  [byte es.length, byte (packedSum (fun e => e.identifier.isSome.toNat) 2 es)] ++
  be16 (packedSum (fun e => e.dayCode.1) 4 es) ++ be16 base ++ es.flatMap PackedEntry.bytes

/-- The day of a packed entry: base day, base − 1, base − 2, base + 1 for codes 0 to 3. -/
def PackedEntry.day (base : Nat) (e : PackedEntry) : Int :=
  match e.dayCode with
  | 0 => (base : Int)
  | 1 => (base : Int) - 1
  | 2 => (base : Int) - 2
  | 3 => (base : Int) + 1

/-- The entries the packed ones stand for, `last` being the nearest earlier identifier. -/
def unpacked (base : Nat) (last : Nat) : List PackedEntry → List Entry
  | [] => []
  | e :: es =>
    let i := match e.identifier with
      | some x => x.toNat
      | none => last
    ⟨i, (e.day base).toNat, e.interval.1, e.volume.toNat, e.estimated⟩ :: unpacked base i es

/-- The district's window cells are all filled in every enabled slot linked to it (R54). -/
abbrev State.IsComplete (s : State) (d : District) : Prop :=
  ∀ i : SlotIndex, (s.slot i).enabled = true → (s.slot i).Names d →
    ∀ c : Fin 16, c.1 < s.nck.wlen → ((s.slot i).cells.get c).state ≠ .empty

end Sys2Proof.Machine
end

