-- ==== Sys2Proof/Certificates/Slice0/Obligations.lean ====
section
/-!
DEFINITION. The statements about the NB-32. Rule numbers R<n> are those of spec/; "log n" is notes/assumptions/n.md.
Where an equation fixes the whole next state, it states the frame: every field it does not name is as before.
-/

section

open Sys2Proof Sys2Proof.Machine

/-! ## The step -/

/-- A step takes the command at the front of the queue and is that command's effect on the state with the rest of the queue. -/
def Obligations.StepRunsFrontCommand : Prop :=
  ∀ (s : State) (c : Instr) (rest : List Instr),
    s.pending = c :: rest → step s = exec c { s with pending := rest }

/-- Every command, whatever its operands, is answered with a next state, and only the step moves the queue. The manual stops at no command. That an
event which does not apply also answers a next state (log 2), and that both resets keep the queue of what waits (log 12), is the model's choice. -/
def Obligations.EveryCommandKeepsTheQueue : Prop :=
  ∀ (s : State) (c : Instr),
    ∃ t, exec c s = .next t ∧ t.pending = s.pending

/-- With no command waiting, one crystal period passes (model's choice, log 6): the divider counts it while the clock is set,
and the 1,966,080th period is a minute event; while the clock is not set nothing counts (R2). -/
def Obligations.IdleStepCountsCrystalPeriods : Prop :=
  ∀ (s : State),
    s.pending = [] → s.running = true → s.nck.divider ≤ 1966079 →
      step s =
        if s.nck.clockSet = false then .next s
        else if s.nck.divider = 1966079 then exec .minuteEvent s
        else .next { s with nck.divider := s.nck.divider + 1 }

/-! ## Pins -/

/-- POWER_ON_RESET, from any state and with any strap, leaves the values that R1, R21, R33, R38, R40, R62, R63, R82, R123, R136, R158, R171
and R175 give, and the first frame carries POWER_UP's attention bit (R170). State.reset is what it leaves on the model's board (log 5).
RSTN_HELD_LOW: DN is held at 1, no event of the part occurs until the release, and nothing of the state before is kept (R176; how the model
says it: log 12). -/
def Obligations.PowerOnResetValues : Prop :=
  ∀ (strap : BitVec 4) (s : State) (c : Instr),
    exec (.powerOnReset Config.boardStrap) State.reset = .next State.reset ∧
    (∃ t, exec (.powerOnReset strap) s = .next t ∧ t.running = true ∧
      t.nck = { clock := ⟨0, 0⟩, divider := 0, clockSet := false, wstart := 8, wlen := 8, grace := 16, phase := .stopped,
                nightDay := none, nightMark := none } ∧
      (∀ i : SlotIndex, t.slot i =
        { identifier := 0, enabled := false, primary := none, secondary := none, protect := false, heldMean := none,
          duplicates := 0, conflicts := 0, cells := Table.replicate 16 ⟨.empty, 0⟩ }) ∧
      t.strays = [] ∧ (∀ d : District, ∀ c : Fin 16, (t.pressure.get d).get c = none) ∧
      (∀ d : District, t.district d =
        { params := { properties := 0, allowance := 0, pRef := 400, n1 := .none, m := 1, tAbs := 0, tRel := 0, burst := 4,
                      nConfirm := 3, gapLimit := 3, subLim := 25 },
          inService := false, nightState := .idle, hold := none, heldPressure := none, result := none }) ∧
      t.queue = [] ∧ t.flight = none ∧ t.choiceDue = false ∧
      (∀ d : District, t.baseline d = { ring := [], mode := .learned, rank := 2, fixed := 0 }) ∧
      (∀ d : District, t.watch d = { state := .out, excess := 0, gap := 0, alert := .none }) ∧
      t.station 0 =
        { address := strap, role := some .telemetry, subscription := 0xFFFFFFFF#32, kindMask := 0xF#4, eventMask := 0x1F#5,
          pendingSet := 0#32, flags := 0x01#5 } ∧
      (∀ p : Position, p ≠ 0 → t.station p =
        { address := 0#4, role := none, subscription := 0#32, kindMask := 0#4, eventMask := 0#5, pendingSet := 0#32, flags := 0#5 }) ∧
      t.link.phase = .free ∧ t.link.holder = none ∧ t.link.recvStep = .first ∧ t.link.sendStep = .offer ∧ t.link.frames = 0 ∧
      t.link.clearFrames = 0 ∧ t.link.recvBuf = [] ∧ t.link.overLength = false ∧ t.link.answer = [] ∧ t.link.fairness = none ∧
      t.link.breakRun = 0 ∧ t.link.dn = 0x08003FFF#32 ∧ t.counters = ⟨0, 0, 0, 0, 0, 0, 0, 0, 0⟩) ∧
    ∃ t, exec .rstnHeldLow s = .next t ∧ t.running = false ∧ t.link.dn = 0xFFFFFFFF#32 ∧ t.pending = s.pending ∧
      exec (.powerOnReset strap) t = exec (.powerOnReset strap) s ∧
      ((∀ a, c ≠ .powerOnReset a) → exec c t = .next t)

/-! ## The Night Clock -/

/-- A minute event at which nothing falls due moves the clock by one minute and nothing else; one that reaches one boundary time, or one hold's
expiry time, takes that event at the new clock time. At the end of the calendar the clock halts; while it is not set no minute event occurs
(R2, R5, R18). The row asserts the minute whatever the divider holds (model's choice, log 27). -/
def Obligations.MinuteEventTakesWhatFallsDue : Prop :=
  ∀ (s : State) (u : ClockTime),
    ClockLaw s → DistrictLaw s → s.running = true →
    u = (if s.nck.clock.minute = 1439 then ⟨s.nck.clock.day + 1, 0⟩ else ⟨s.nck.clock.day, s.nck.clock.minute + 1⟩) →
      let arrived : State := { s with nck.clock := u, nck.divider := 0 }
      let noHold := ∀ d : District, (s.district d).hold.map (·.expiry) ≠ some u
      let noEnd := s.nightInProgress = true →
        s.nck.nightDay.map s.windowEndOf ≠ some u ∧ s.nck.nightDay.map s.graceExpiryOf ≠ some u
      let noStart := u = s.windowStartOf u.day → s.eligible u.day = false
      (s.nck.clockSet = false → exec .minuteEvent s = .next s) ∧
      (s.nck.clockSet = true → s.nck.clock = ⟨65535, 1439⟩ → exec .minuteEvent s = .next { s with nck.divider := 0 }) ∧
      (s.nck.clockSet = true → s.nck.clock ≠ ⟨65535, 1439⟩ →
        (noHold → noEnd → noStart → exec .minuteEvent s = .next arrived) ∧
        (noHold → ¬ noStart → exec .minuteEvent s = exec .windowStart arrived) ∧
        (noHold → s.nightInProgress = true → s.nck.nightDay.map s.windowEndOf = some u →
          exec .minuteEvent s = exec .windowEnd arrived) ∧
        (noHold → s.nightInProgress = true → s.nck.grace ≠ 0 → s.nck.nightDay.map s.graceExpiryOf = some u →
          exec .minuteEvent s = exec .graceExpiry arrived) ∧
        (noEnd → noStart → ∀ d : District, (s.district d).hold.map (·.expiry) = some u →
          (∀ e : District, e ≠ d → (s.district e).hold.map (·.expiry) ≠ some u) →
          exec .minuteEvent s = exec (.holdExpiry d) arrived))

/-- WINDOW_START in DAYTIME opens the night (R6, R59, R60): held means updated, every cell EMPTY, each district OPEN, SKIPPED with a
NO_METERS result that is applied to its watch, or IDLE; phase, night day and night mark; nothing else. That the row applies wherever the clock stands at
an eligible window start is the model's choice (log 28). -/
def Obligations.WindowStartOpensTheNight : Prop :=
  ∀ (s : State) (n : Nat),
    s.running = true → s.nck.phase = .daytime → s.nck.clock = s.windowStartOf n → s.eligible n = true →
      let noMeters := fun d : District => (s.district d).inService = true ∧
        ∀ i : SlotIndex, (s.slot i).enabled = true → ¬ (s.slot i).Names d
      let raises := fun d : District => noMeters d ∧ ((s.watch d).alert = .none ∨ (s.watch d).alert = .cleared) ∧
        (s.district d).params.gapLimit ≤ min 255 ((s.watch d).gap + 1)
      ∃ t, exec .windowStart s = .next t ∧
        t = { s with
          nck := { s.nck with phase := .collecting, nightDay := some n, nightMark := some (s.graceExpiryOf n) }
          slots := t.slots, pressure := t.pressure, districts := t.districts, watches := t.watches, stations := t.stations
          rqh.notice := s.rqh.notice.filter (fun x => decide (¬ raises x.district)) } ∧
        (∀ i : SlotIndex, t.slot i = { s.slot i with
          heldMean := (let v := ((s.slot i).cells.1.filter (fun c => decide (c.state ≠ .empty))).map (·.volume)
                       if v = [] then (s.slot i).heldMean else some (v.sum / v.length))
          cells := Table.replicate 16 ⟨.empty, 0⟩ }) ∧
        (∀ d : District, ∀ c : Fin 16, (t.pressure.get d).get c = none) ∧
        (∀ d : District, t.district d =
          if (s.district d).inService = false then { s.district d with nightState := .idle }
          else if noMeters d then
            { s.district d with
              nightState := .skipped
              result := some { nightDay := n, status := .skipped, reason := some .noMeters, flags := ⟨false, false, false, false⟩,
                               slotsUsed := 0, cellsSubstituted := 0, figures := none, verdict := .none } }
          else { s.district d with nightState := .opened }) ∧
        (∀ d : District, t.watch d =
          if noMeters d then { s.watch d with gap := min 255 ((s.watch d).gap + 1)
                                              alert := if raises d then .dataLoss else (s.watch d).alert }
          else s.watch d) ∧
        (∀ p : Position, t.station p = { s.station p with pendingSet := (t.station p).pendingSet } ∧
          ∀ d : District, (t.station p).pendingSet.has d =
            if raises d ∧ (s.station p).role ≠ none ∧ (s.station p).subscription.has d = true then (s.station p).kindMask.getLsbD 2
            else (s.station p).pendingSet.has d)

/-- WINDOW_START in CLOSING abandons the old night m and opens night n (R7, R59, R60, R93): the queue is emptied, an evaluation in flight is dropped,
and each district still to be closed publishes SKIPPED with reason ABANDONED for night m; then the held means are updated, every cell is EMPTY, and each
district is OPEN, SKIPPED with a NO_METERS result for night n, or IDLE. Each SKIPPED result is applied to the watch (R144), so a district that receives
both is counted twice. NIGHT_CLOSED is raised for every station. Held pressures, rings and holds stay. (When the row may come: log 28.) -/
def Obligations.WindowStartAbandonsTheOldNight : Prop :=
  ∀ (s : State) (m n : Nat),
    s.running = true → s.nck.phase = .closing → s.nck.nightDay = some m → s.nck.clock = s.windowStartOf n → s.eligible n = true →
      let noMeters := fun d : District => (s.district d).inService = true ∧
        ∀ i : SlotIndex, (s.slot i).enabled = true → ¬ (s.slot i).Names d
      let dropped := fun d : District => (s.district d).nightState = .opened ∨ (s.district d).nightState = .queued ∨
        s.flight.map (·.district) = some d
      let skips := fun d : District => (if dropped d then 1 else 0) + (if noMeters d then 1 else 0)
      let raises := fun d : District => 0 < skips d ∧ ((s.watch d).alert = .none ∨ (s.watch d).alert = .cleared) ∧
        (s.district d).params.gapLimit ≤ min 255 ((s.watch d).gap + skips d)
      ∃ t, exec .windowStart s = .next t ∧
        t = { s with
          nck := { s.nck with phase := .collecting, nightDay := some n, nightMark := some (s.graceExpiryOf n) }
          slots := t.slots, pressure := t.pressure, districts := t.districts, queue := [], flight := none, choiceDue := false
          watches := t.watches, stations := t.stations
          rqh.notice := s.rqh.notice.filter (fun x => decide (¬ raises x.district))
          rqh.events := s.noteAfterRaising (fun _ => 0x02#5) } ∧
        (∀ i : SlotIndex, t.slot i = { s.slot i with
          heldMean := (let v := ((s.slot i).cells.1.filter (fun c => decide (c.state ≠ .empty))).map (·.volume)
                       if v = [] then (s.slot i).heldMean else some (v.sum / v.length))
          cells := Table.replicate 16 ⟨.empty, 0⟩ }) ∧
        (∀ d : District, ∀ c : Fin 16, (t.pressure.get d).get c = none) ∧
        (∀ d : District, t.district d = { s.district d with
          nightState := if (s.district d).inService = false then .idle else if noMeters d then .skipped else .opened
          result :=
            if noMeters d then
              some { nightDay := n, status := .skipped, reason := some .noMeters, flags := ⟨false, false, false, false⟩,
                     slotsUsed := 0, cellsSubstituted := 0, figures := none, verdict := .none }
            else if dropped d then
              some { nightDay := m, status := .skipped, reason := some .abandoned, flags := ⟨false, false, false, false⟩,
                     slotsUsed := 0, cellsSubstituted := 0, figures := none, verdict := .none }
            else (s.district d).result }) ∧
        (∀ d : District, t.watch d =
          if skips d = 0 then s.watch d
          else { s.watch d with gap := min 255 ((s.watch d).gap + skips d)
                                alert := if raises d then .dataLoss else (s.watch d).alert }) ∧
        (∀ p : Position, t.station p = { s.station p with
            pendingSet := (t.station p).pendingSet
            flags := if (s.station p).role = none then (s.station p).flags else (s.station p).flags ||| 0x02#5 } ∧
          ∀ d : District, (t.station p).pendingSet.has d =
            if raises d ∧ (s.station p).role ≠ none ∧ (s.station p).subscription.has d = true then (s.station p).kindMask.getLsbD 2
            else (s.station p).pendingSet.has d)

/-- WINDOW_END in COLLECTING (R8, R9, R10, R54): SETTLING; every complete OPEN district is QUEUED and joins the queue with reason COMPLETE in index
order; if nothing is left to close the night ends, and NIGHT_CLOSED, raised again, is no longer cleared by a READ EVENTS answer that has not
completed (R169). With GRACE 0 the grace expiry is taken in the same event, after it. In another phase the
event leaves no trace (R5). -/
def Obligations.WindowEndQueuesCompleteDistricts : Prop :=
  ∀ (s : State) (n : Nat),
    s.running = true → s.nck.nightDay = some n → s.nck.clock = s.windowEndOf n →
      let joins := allDistricts.filter (fun d => decide ((s.district d).nightState = .opened ∧ s.IsComplete d))
      let waits := allDistricts.filter (fun d => decide ((s.district d).nightState = .opened ∧ ¬ s.IsComplete d))
      let late := if s.nck.grace = 0 then waits else []
      (s.nck.phase ≠ .collecting → exec .windowEnd s = .next s) ∧
      (s.nck.phase = .collecting → ∃ t, exec .windowEnd s = .next t ∧
        t = { s with
          nck.phase := if ∃ d : District, t.Unclosed d then (if s.nck.grace = 0 then .closing else .settling) else .daytime
          districts := t.districts
          queue := s.queue ++ joins.map (fun d => ⟨d, .complete⟩) ++ late.map (fun d => ⟨d, .grace⟩)
          choiceDue := s.choiceDue || decide (joins ++ late ≠ [] ∧ s.flight = none)
          stations := t.stations
          rqh.events := if ∃ d : District, t.Unclosed d then s.rqh.events else s.noteAfterRaising (fun _ => 0x02#5) } ∧
        (∀ d : District, t.district d =
          if d ∈ joins ∨ d ∈ late then { s.district d with nightState := .queued } else s.district d) ∧
        (∀ p : Position, t.station p =
          if (∃ d : District, t.Unclosed d) ∨ (s.station p).role = none then s.station p
          else { s.station p with flags := (s.station p).flags ||| 0x02#5 }))

/-- GRACE_EXPIRY in SETTLING (R9, R10): every OPEN district is QUEUED and joins the queue with reason GRACE in index order, behind what is
queued already; CLOSING; if nothing is left to close the night ends, with NIGHT_CLOSED raised and taken out of a noted clearing (R169). In another
phase the event leaves no trace (R5). -/
def Obligations.GraceExpiryQueuesOpenDistricts : Prop :=
  ∀ (s : State) (n : Nat),
    s.running = true → s.nck.nightDay = some n → s.nck.clock = s.graceExpiryOf n →
      let joins := allDistricts.filter (fun d => decide ((s.district d).nightState = .opened))
      (s.nck.phase ≠ .settling → exec .graceExpiry s = .next s) ∧
      (s.nck.phase = .settling → ∃ t, exec .graceExpiry s = .next t ∧
        t = { s with
          nck.phase := if ∃ d : District, t.Unclosed d then .closing else .daytime
          districts := t.districts, queue := s.queue ++ joins.map (fun d => ⟨d, .grace⟩)
          choiceDue := s.choiceDue || decide (joins ≠ [] ∧ s.flight = none)
          stations := t.stations
          rqh.events := if ∃ d : District, t.Unclosed d then s.rqh.events else s.noteAfterRaising (fun _ => 0x02#5) } ∧
        (∀ d : District, t.district d =
          if (s.district d).nightState = .opened then { s.district d with nightState := .queued } else s.district d) ∧
        (∀ p : Position, t.station p =
          if (∃ d : District, t.Unclosed d) ∨ (s.station p).role = none then s.station p
          else { s.station p with flags := (s.station p).flags ||| 0x02#5 }))

/-- HOLD_EXPIRY, the clock having reached the expiry time (R18): the hold is removed, HOLD_ENDED is raised for the holder and
taken out of a noted clearing of its flags (R169), the Evaluation Unit is prompted (R85), nothing else. HOLD DISTRICT (R73): the hold runs for the minutes asked, at most 240. RELEASE DISTRICT (R74): the holder's
hold is removed and the unit prompted; another's is LOCKED, none is STATE. -/
def Obligations.HoldsAreGivenReleasedAndExpire : Prop :=
  ∀ (s : State) (d : District) (h : Hold) (p : Position) (r : StationRole) (b m1 m0 : Byte),
    s.running = true →
      ((s.district d).hold = some h → ClockTime.NotAfter h.expiry s.nck.clock →
        ∃ t, exec (.holdExpiry d) s = .next t ∧
          t = { s with
            districts := t.districts, choiceDue := s.choiceDue || s.flight.isNone, stations := t.stations
            rqh.events := s.noteAfterRaising (fun q => if q = h.holder then 0x04#5 else 0#5) } ∧
          (∀ e : District, t.district e = if e = d then { s.district d with hold := none } else s.district e) ∧
          (∀ q : Position, t.station q =
            if q = h.holder ∧ (s.station q).role ≠ none then { s.station q with flags := (s.station q).flags ||| 0x04#5 }
            else s.station q)) ∧
      (s.Asks p r → (r = .telemetry ∨ r = .service) → b.toNat = d.1 →
        let minutes := m1.toNat * 256 + m0.toNat
        let until_ := s.nck.clock.minute + min minutes 240
        exec (.holdDistrict [b, m1, m0]) s = .next
          (if minutes = 0 then s.refusal .holdDistrict [b, m1, m0] .range
           else s.unlessGuarded p d .holdDistrict [b, m1, m0]
             ((s.modDistrict d (fun x => { x with hold := some ⟨p, ⟨s.nck.clock.day + until_ / 1440, until_ % 1440⟩⟩ })).answered
               .holdDistrict [b, m1, m0] .ok [byte (min minutes 240)])) ∧
        exec (.releaseDistrict [b]) s = .next
          (if (s.district d).hold = none then s.refusal .releaseDistrict [b] .state
           else if s.HeldByOther p d then s.refusal .releaseDistrict [b] .locked
           else State.answered { s.modDistrict d (fun x => { x with hold := none }) with choiceDue := s.choiceDue || s.flight.isNone }
             .releaseDistrict [b] .ok []))

/-! ## The Evaluation Unit -/

/-- CHOICE (R86, R87): a due choice takes the oldest entry whose district is not held, passing over the held ones ahead of it, and begins
that evaluation with its snapshot; if every entry is held only "choice due" is cleared. -/
def Obligations.ChoiceTakesTheOldestUnheld : Prop :=
  ∀ (s : State) (ahead behind : List QueueEntry) (e : QueueEntry) (n : Nat),
    s.running = true → s.choiceDue = true → s.flight = none → s.nck.nightDay = some n →
    (∀ x ∈ ahead, (s.district x.district).hold ≠ none) →
      (s.queue = ahead → exec .choice s = .next { s with choiceDue := false }) ∧
      (s.queue = ahead ++ e :: behind → (s.queue.map (·.district)).Nodup → (s.district e.district).hold = none →
        exec .choice s = .next
          { s.modDistrict e.district (fun r => { r with nightState := .evaluating }) with
            choiceDue := false
            queue := ahead ++ behind
            flight := some
              { district := e.district
                snapshot :=
                  { nightDay := n, wstart := s.nck.wstart, wlen := s.nck.wlen, params := (s.district e.district).params
                    slots := (s.slots.1.filter (fun x => x.enabled && decide (x.Names e.district))).map (fun x =>
                      { role := if x.primary.map (·.district) = some e.district then (x.primary.map (·.role)).getD .inlet
                                else (x.secondary.map (·.role)).getD .inlet
                        cells := x.cells.1.take s.nck.wlen, heldMean := x.heldMean })
                    pressure := (s.pressure.get e.district).1.take s.nck.wlen
                    heldPressure := (s.district e.district).heldPressure
                    baseline := (s.baseline e.district).b } } })

/-- EVALUATION_COMPLETION (R89, R99, R10, R85): the result of the snapshot is published whole, the held pressure is replaced by the mean of the
filled pressure cells whatever the status, the district is DONE, the unit is IDLE and prompted, and the night ends if no other
district is still to be closed, with NIGHT_CLOSED raised and taken out of a noted clearing (R169). The learning gate (R126, R127): a CLEAN result with verdict NORMAL or NONE, in LEARNING, QUIET or WATCH, of a
later night than the ring's newest, is appended with its corrected figure, and a full ring loses its oldest entry. -/
def Obligations.CompletionPublishesAndLearns : Prop :=
  ∀ (s : State) (f : Flight),
    s.running = true → s.flight = some f →
      let r := f.snapshot.result
      let ring := (s.baseline f.district).ring
      let cells := f.snapshot.pressure.filterMap id
      let ends := (s.nck.phase = .settling ∨ s.nck.phase = .closing) ∧ ∀ e : District, e ≠ f.district → ¬ s.Unclosed e
      ∃ t, exec .evaluationCompletion s = .next t ∧
        t = { s with
          nck.phase := if ends then .daytime else s.nck.phase
          districts := t.districts, flight := none, choiceDue := true
          baselines := t.baselines, watches := t.watches, stations := t.stations
          rqh := { notice := t.rqh.notice, events := if ends then s.noteAfterRaising (fun _ => 0x02#5) else s.rqh.events } } ∧
        t.district f.district = { s.district f.district with
          nightState := .done, result := some r
          heldPressure := if cells = [] then (s.district f.district).heldPressure else some (cells.sum / cells.length) } ∧
        (∀ e : District, e ≠ f.district → t.district e = s.district e ∧ t.baseline e = s.baseline e ∧ t.watch e = s.watch e) ∧
        t.baseline f.district =
          (if r.status = .clean ∧ (r.verdict = .normal ∨ r.verdict = .none) ∧
            ((s.watch f.district).state = .learning ∨ (s.watch f.district).state = .quiet ∨ (s.watch f.district).state = .watch) ∧
            ring.getLast?.all (fun x => decide (x.nightDay < r.nightDay)) = true
          then { s.baseline f.district with
            ring := (if 8 ≤ ring.length then ring.tail else ring) ++ [⟨r.nightDay, (r.figures.map (·.c)).getD 0⟩] }
          else s.baseline f.district) ∧
        (∀ p : Position, t.station p = { s.station p with
          pendingSet := (t.station p).pendingSet
          flags := if ends ∧ (s.station p).role ≠ none then (s.station p).flags ||| 0x02#5 else (s.station p).flags })

/-- The watch at completion (R144 to R149, R142): watch state, excess count, gap count and alert by the result's status and verdict,
under the district's N_confirm and gap limit; a CLEARED alert that no position holds pending is NONE. Where the alert is left changed, or the
watch newly ALERTED, every subscribing position gains or loses the district by its kind mask and a noted removal of it is cancelled; else no
pending set and no note changes (R141, R164, R167). -/
def Obligations.CompletionMovesTheWatchAndTellsTheStations : Prop :=
  ∀ (s : State) (f : Flight),
    s.running = true → s.flight = some f → NoticeLaw s → (s.watch f.district).state ≠ .out →
    WatchConsistent (s.district f.district).params.nConfirm (s.watch f.district) →
      let d := f.district
      let r := f.snapshot.result
      let w := s.watch d
      let limit := (s.district d).params.gapLimit
      let confirm := (s.district d).params.nConfirm
      let g := min 255 (w.gap + 1)
      let e := if w.state = .learning then 0 else w.excess
      let up := min confirm (e + 1)
      let down := e - 1
      let alert := if w.alert = .dataLoss then .cleared else w.alert
      let calm := decide (w.state = .learning ∨ w.state = .quiet ∨ w.state = .watch)
      let next : Watch :=
        if r.status = .unusable then
          { w with gap := g, alert := if limit ≤ g ∧ (w.alert = .none ∨ w.alert = .cleared) then .dataLoss else w.alert }
        else match r.verdict with
          | .none =>
            if w.state = .quiet ∨ w.state = .watch then { state := .learning, excess := 0, gap := 0, alert := alert }
            else { w with gap := 0, alert := alert }
          | .burst => { state := .alerted, excess := confirm, gap := 0, alert := .burst }
          | .excess =>
            if calm = false then { w with excess := up, gap := 0, alert := alert }
            else if confirm ≤ up then { state := .alerted, excess := up, gap := 0, alert := .rising }
            else { state := .watch, excess := up, gap := 0, alert := alert }
          | .normal =>
            if w.state = .acknowledged then { w with excess := down, gap := 0, alert := alert }
            else if w.state = .alerted then
              (if down = 0 then { state := .quiet, excess := 0, gap := 0, alert := .cleared }
               else { w with excess := down, gap := 0, alert := alert })
            else { state := if w.state = .watch ∧ down ≠ 0 then .watch else .quiet, excess := down, gap := 0, alert := alert }
      let handed := decide (next.alert ≠ w.alert ∨ (next.state = .alerted ∧ w.state ≠ .alerted))
      ∃ t, exec .evaluationCompletion s = .next t ∧
        t.watch d = { next with
          alert := if next.alert = .cleared ∧ ∀ p : Position, (t.station p).pendingSet.has d = false then .none else next.alert } ∧
        (∀ p : Position, ∀ x : District, x ≠ d → (t.station p).pendingSet.has x = (s.station p).pendingSet.has x) ∧
        (∀ p : Position, (t.station p).pendingSet.has d =
          if handed = true ∧ (s.station p).role ≠ none ∧ (s.station p).subscription.has d = true then next.alert.inMask (s.station p).kindMask
          else (s.station p).pendingSet.has d) ∧
        t.rqh.notice = if handed then s.rqh.notice.filter (fun x => decide (x.district ≠ d)) else s.rqh.notice

/-! ## The arithmetic -/

/-- The usability of a snapshot (R95 to R97, R100): NO_METERS with no slots, NO_HISTORY when a slot has neither a filled cell nor a held
mean, TOO_SPARSE when s × 100 exceeds c × SUBLIM; else PATCHED when a cell was substituted, or the held or no pressure had to serve, and CLEAN
otherwise. An UNUSABLE result carries no figures and verdict NONE. -/
def Obligations.ResultStatusFollowsUsability : Prop :=
  ∀ (x : Snapshot),
    let empties := fun y : SnapshotSlot => (y.cells.filter (fun c => decide (c.state = .empty))).length
    let s := (x.slots.map empties).sum
    let noHistory := x.slots.any (fun y => decide (empties y = y.cells.length) && y.heldMean.isNone)
    let reason : Option Reason :=
      if x.slots = [] then some .noMeters else if noHistory then some .noHistory
      else if x.slots.length * x.wlen * x.params.subLim < s * 100 then some .tooSparse else none
    let noCells := decide (x.params.n1 ≠ .none) && (x.pressure.filterMap id).isEmpty
    x.result.nightDay = x.nightDay ∧ x.result.reason = reason ∧ x.result.slotsUsed = x.slots.length ∧ x.result.cellsSubstituted = s ∧
    x.result.status = (if reason ≠ none then .unusable else if 0 < s ∨ noCells = true then .patched else .clean) ∧
    (reason ≠ none → x.result.figures = none ∧ x.result.verdict = .none ∧ x.result.flags = ⟨false, false, false, false⟩) ∧
    (reason = none → x.result.figures.isSome = true ∧ x.result.flags.uncorrected = (noCells && x.heldPressure.isNone) ∧
      x.result.flags.pressureHeld = (noCells && x.heldPressure.isSome))

/-- NF is the smallest mean of M consecutive net flows, and the minimum index the earliest start that has it (R104, R105, R107 to R109). An EMPTY cell
counts with its slot's own-night mean, or with the held mean if the slot filed nothing; a filled one with its volume (R96, R103). -/
def Obligations.NightFlowIsTheLeastMean : Prop :=
  ∀ (x : Snapshot),
    1 ≤ x.params.m → x.params.m ≤ x.wlen →
      let volumes := fun y : SnapshotSlot => (y.cells.filter (fun c => decide (c.state ≠ .empty))).map (·.volume)
      let part := fun (y : SnapshotSlot) (k : Nat) =>
        match y.cells[k]? with
        | some ⟨.good, v⟩ | some ⟨.estimated, v⟩ => v
        | _ => if volumes y ≠ [] then (volumes y).sum / (volumes y).length else y.heldMean.getD 0
      let sumOf := fun (role : LinkRole) (k : Nat) =>
        ((x.slots.map (fun y => if y.role = role then (part y k : Int) else 0)).sum : Int)
      let net := fun k => sumOf .inlet k - sumOf .outlet k - sumOf .user k - ((x.params.properties * x.params.allowance / 100 : Nat) : Int)
      let mean := fun j => ((List.range x.params.m).map (fun i => net (j + i))).sum / (x.params.m : Int)
      (∀ j, j ≤ x.wlen - x.params.m → x.nightFlow ≤ mean j) ∧
      x.minIndex ≤ x.wlen - x.params.m ∧ mean x.minIndex = x.nightFlow ∧
      (∀ j, j < x.minIndex → x.nightFlow < mean j)

/-- "isqrt(n) is the largest integer whose square does not exceed n", exact, with its range for a pressure ratio (R111). -/
def Obligations.IsqrtIsTheIntegerSquareRoot : Prop :=
  (∀ n : Nat, isqrt n * isqrt n ≤ n ∧ n < (isqrt n + 1) * (isqrt n + 1)) ∧
  (∀ q : Nat, 16384 ≤ q → q ≤ 262144 →
    1073741824 ≤ q * 65536 ∧ q * 65536 ≤ 17179869184 ∧ 32768 ≤ isqrt (q * 65536) ∧ isqrt (q * 65536) ≤ 131072) ∧
  isqrt (65536 * 65536) = 65536 ∧ isqrt (57487 * 65536) = 61379

/-- The pressure ratio and its clamp (R110), the pressure factor under each code (R112), and what a usable result carries of them: the
pressure used, the factor, and the flags PRESSURE_CLAMPED and UNCORRECTED. -/
def Obligations.PressureRatioIsClamped : Prop :=
  ∀ (x : Snapshot),
    1 ≤ x.params.pRef → x.params.pRef ≤ 2000 → (∀ v ∈ x.pressure, v.all (fun p => decide (p ≤ 2000)) = true) →
    x.heldPressure.all (fun p => decide (p ≤ 2000)) = true →
      let cells := x.pressure.filterMap id
      let used : Option Nat :=
        if x.params.n1 = .none then none else if cells ≠ [] then some (cells.sum / cells.length) else x.heldPressure
      let u := fun p => x.params.pRef * 65536 / p
      x.pressureUsed = used ∧ used.all (fun p => decide (p ≤ 2000)) = true ∧
      (used = none → x.factor = (65536, false)) ∧
      (∀ p, used = some p →
        x.factor.2 = decide (p = 0 ∨ u p < 16384 ∨ 262144 < u p) ∧
        (let q := if p = 0 then 262144 else if u p < 16384 then 16384 else if 262144 < u p then 262144 else u p
         x.factor.1 = match x.params.n1 with
           | .none => 65536
           | .half => isqrt (q * 65536)
           | .one => q
           | .oneHalf => q * isqrt (q * 65536) / 65536)) ∧
      (∀ p, 1 ≤ p → p ≤ 2000 → 32 ≤ u p ∧ u p ≤ 131072000) ∧
      (∀ q : Nat, 16384 ≤ q → q ≤ 262144 → 536870912 ≤ q * isqrt (q * 65536) ∧ q * isqrt (q * 65536) ≤ 34359738368) ∧
      (x.result.status ≠ .unusable → ∃ g, x.result.figures = some g ∧ g.pUsed = used ∧ g.f = x.factor.1 ∧
        x.result.flags.pressureClamped = x.factor.2 ∧
        x.result.flags.uncorrected = decide (x.params.n1 ≠ .none ∧ used = none))

/-- The pressure factor of every result that carries one lies within 8,192..524,288; its limits under each code at the ends of Q;
a larger Q never gives a smaller factor; below the reference pressure Q is above 65,536 and F at or above it, which raises a figure; above the
reference pressure a code that corrects lowers it (R113). -/
def Obligations.PressureFactorStaysInRange : Prop :=
  (∀ (x : Snapshot) (g : Figures), x.result.figures = some g → 8192 ≤ g.f ∧ g.f ≤ 524288) ∧
  (∀ (n1 : Exponent) (q r : Nat), 16384 ≤ q → q ≤ r → r ≤ 262144 →
    pressureFactor n1 q ≤ pressureFactor n1 r ∧
    pressureFactor n1 16384 ≤ pressureFactor n1 q ∧ pressureFactor n1 q ≤ pressureFactor n1 262144) ∧
  (∀ n1 : Exponent, pressureFactor n1 16384 = (match n1 with | .none => 65536 | .half => 32768 | .one => 16384 | .oneHalf => 8192) ∧
    pressureFactor n1 262144 = (match n1 with | .none => 65536 | .half => 131072 | .one => 262144 | .oneHalf => 524288)) ∧
  (∀ (n1 : Exponent) (pRef p : Nat), pRef ≤ 2000 → p < pRef →
    65536 < (pressureRatio pRef p).1 ∧ 65536 ≤ pressureFactor n1 (pressureRatio pRef p).1) ∧
  (∀ (n1 : Exponent) (pRef p : Nat), 1 ≤ pRef → pRef < p → p ≤ 2000 →
    (pressureRatio pRef p).1 < 65536 ∧ (n1 ≠ .none → pressureFactor n1 (pressureRatio pRef p).1 < 65536)) ∧
  (∀ nf f : Int, 0 ≤ nf → (65536 ≤ f → nf ≤ nf * f / 65536) ∧ (f < 65536 → 0 < nf → nf * f / 65536 < nf))

/-- C and X with their saturation and FIGURE_CLAMPED (R114, R116), T with the range that its formula gives (R117; log 19), TB (R118), and the verdict
by strict comparisons (R119); with no baseline there is no comparison and the verdict is NONE (R115). -/
def Obligations.FiguresAndVerdict : Prop :=
  ∀ (x : Snapshot) (g : Figures),
    x.result.figures = some g → ParamsInRange x.wlen x.params →
    x.baseline.all (fun b => decide (-2147483648 ≤ b ∧ b ≤ 2147483647)) = true →
      let sat := fun v : Int => max (-2147483648) (min 2147483647 v)
      let c := g.nf * (g.f : Int) / 65536
      g.nf = x.nightFlow ∧ g.minInterval = x.wstart + x.minIndex ∧ g.c = sat c ∧
      (x.baseline = none → g.compared = none ∧ x.result.verdict = .none ∧ x.result.flags.figureClamped = decide (g.c ≠ c)) ∧
      (∀ b, x.baseline = some b →
        let t := (x.params.tAbs : Int) + max b 0 * (x.params.tRel : Int) / 256
        let tb := min 2147483647 (t * (x.params.burst : Int))
        g.compared = some ⟨b, t, sat (g.c - b)⟩ ∧ 0 ≤ t ∧ t ≤ 2139160574 ∧ t ≤ tb ∧ (t = 0 → tb = 0) ∧
        x.result.flags.figureClamped = decide (g.c ≠ c ∨ sat (g.c - b) ≠ g.c - b) ∧
        x.result.verdict = (if tb < sat (g.c - b) then .burst else if t < sat (g.c - b) then .excess else .normal))

/-- Baseline B (R125): in FIXED mode the fixed value; in LEARNED mode absent with fewer than k entries, else the k-th smallest figure, equal
figures taking separate ranks. -/
def Obligations.BaselineIsTheRankedFigure : Prop :=
  ∀ (bl : Baseline),
    1 ≤ bl.rank →
      let figures := bl.ring.map (·.figure)
      (bl.mode = .fixed → bl.b = some (bl.fixed : Int)) ∧
      (bl.mode = .learned → bl.ring.length < bl.rank → bl.b = none) ∧
      (bl.mode = .learned → bl.rank ≤ bl.ring.length → ∃ b, bl.b = some b ∧ b ∈ figures ∧
        (figures.filter (fun x => decide (x < b))).length < bl.rank ∧ bl.rank ≤ (figures.filter (fun x => decide (x ≤ b))).length)

/-! ## The station link -/

/-- CONTENTION in a free frame (R178, R179): an address that no occupied position holds is counted and ignored, the address under the
fairness hold is discarded and counted, any other is granted with the receive buffer empty in step FIRST; the free frame counts toward the end of the
fairness hold, which two free frames clear; FAIRNESS_HOLD_CLEARED is the second of them. A row of the link is the end of a frame that is no break
frame (log 4). -/
def Obligations.ContentionIsJudged : Prop :=
  ∀ (s : State) (a : BitVec 4),
    s.running = true → s.link.phase = .free →
      let hold := s.link.fairness.bind (fun h => if h.freeFrames = 0 then some ⟨h.address, 1⟩ else none)
      (exec (.contention a) s = .next (State.nextFrame
        (if a = 0#4 ∨ ∀ p : Position, ¬ ((s.station p).role ≠ none ∧ (s.station p).address = a) then
          { s with link.breakRun := 0, link.fairness := hold
                   counters.unknownContentions := min 65535 (s.counters.unknownContentions + 1) }
        else if s.link.fairness.map (·.address) = some a then
          { s with link.breakRun := 0, link.fairness := hold
                   counters.fairnessDiscards := min 65535 (s.counters.fairnessDiscards + 1) }
        else
          { s with
            link.breakRun := 0, link.fairness := none, link.phase := .request, link.holder := some a, link.recvStep := .first
            link.frames := 0, link.clearFrames := 0, link.recvBuf := [], link.overLength := false
            rqh.notice := none, rqh.events := none }))) ∧
      exec .fairnessHoldCleared s = .next (State.nextFrame { s with link.fairness := none, link.breakRun := 0 }) ∧
      (∀ b, s.link.fairness = some ⟨b, 0⟩ →
        exec (.frameEnd 0xFFFFFFFF#32) s = .next (State.nextFrame { s with link.fairness := some ⟨b, 1⟩, link.breakRun := 0 })) ∧
      (∀ b, s.link.fairness = some ⟨b, 1⟩ →
        exec (.frameEnd 0xFFFFFFFF#32) s = exec .fairnessHoldCleared s)

/-- ENVELOPE_CHECK_REFUSAL (R183): the five checks in their order give the status; LENGTH and CHECK move their counters; the answer
carries the first byte with its top bit set and an empty body; a message that passes is no refusal (log 2). The row stands for the frames
of the whole message (log 4). -/
def Obligations.EnvelopeRefusalIsAnswered : Prop :=
  ∀ (s : State) (b : Byte) (bs : List Byte),
    s.running = true → s.link.phase = .request →
      let m := b :: bs
      let refused := fun (st : Status) (c : Counters) => Host.Outcome.next (State.nextFrame
        { s with
          counters := c
          link.phase := .answer, link.recvStep := .byte, link.sendStep := .offer, link.frames := 0, link.clearFrames := 3
          link.recvBuf := m.take 64, link.overLength := decide (64 < m.length), link.answer := answerMessage b st []
          link.sendPos := 0, link.breakRun := 0 })
      exec (.envelopeCheckRefusal m) s =
        if 64 < m.length ∨ m.length < 3 then
          refused .length { s.counters with lengthErrors := min 65535 (s.counters.lengthErrors + 1) }
        else if m.getLast? ≠ some (crc8 m.dropLast) then
          refused .check { s.counters with checkErrors := min 65535 (s.counters.checkErrors + 1) }
        else if (m.getD 1 0).toNat ≠ m.length - 3 then
          refused .length { s.counters with lengthErrors := min 65535 (s.counters.lengthErrors + 1) }
        else if ∀ k ∈ Kind.all, k.code ≠ b then refused .unknownKind s.counters
        else .next s

/-- ANSWER_COMPLETION (R187, R167, R169, R142, R179): the noted notice leaves its pending set, and a CLEARED alert that no position then
holds pending is NONE; the noted flags are cleared; the grant ends and its station is under the fairness hold; nothing else. The row is the end of
a frame that is no break frame (log 4), and the buffers keep what they hold (model's choice, log 23). -/
def Obligations.AnswerCompletionCommits : Prop :=
  ∀ (s : State) (a : BitVec 4),
    s.running = true → s.link.phase = .trailer → s.link.holder = some a →
      let taken := fun (p : Position) (d : District) => decide (s.rqh.notice = some ⟨p, d⟩)
      ∃ t, exec .answerCompletion s = .next t ∧
        t = { s with
          watches := t.watches, stations := t.stations, rqh := ⟨none, none⟩
          link := { s.link with phase := .free, holder := none, fairness := some ⟨a, 0⟩, breakRun := 0, dn := t.downstream } } ∧
        (∀ d : District, t.watch d =
          if (∃ p : Position, taken p d = true ∧ (s.station p).pendingSet.has d = true) ∧ (s.watch d).alert = .cleared ∧
            ∀ p : Position, (s.station p).pendingSet.has d = true → taken p d = true
          then { s.watch d with alert := .none } else s.watch d) ∧
        (∀ p : Position, t.station p = { s.station p with
          pendingSet := (t.station p).pendingSet
          flags := (s.station p).flags &&& ~~~ ((s.rqh.events.filter (fun x => decide (x.position = p))).map (·.flags)).getD 0#5 }) ∧
        (∀ p : Position, ∀ d : District, (t.station p).pendingSet.has d = ((s.station p).pendingSet.has d && !taken p d))

/-- HANDSHAKE_TIMEOUT of a step that waits on the station (R188, R179): the counter, LINK_FAULT at the holder's position, the grant ends; no
side effect of the answer is committed. In a step that does not wait it leaves no trace (log 2). The bytes received are discarded: that the buffer, the
steps and the counts keep what they hold until they are next set is the model's choice (log 23). The row is the end of a frame that is no break
frame (log 4). -/
def Obligations.HandshakeTimeoutEndsTheGrant : Prop :=
  ∀ (s : State) (p : Position),
    s.running = true → s.link.holder = some (s.station p).address → (s.station p).role ≠ none →
    (∀ q : Position, q ≠ p → (s.station q).role ≠ none → (s.station q).address ≠ (s.station p).address) →
      exec .handshakeTimeout s =
        if (s.link.phase = .request ∧ s.link.recvStep ≠ .byte) ∨ s.link.phase = .answer then
          .next (State.nextFrame
            { s.modStation p (fun x => { x with flags := x.flags ||| 0x08#5 }) with
              counters.handshakeTimeouts := min 65535 (s.counters.handshakeTimeouts + 1)
              link.phase := .free, link.holder := none, link.fairness := some ⟨(s.station p).address, 0⟩, link.breakRun := 0
              rqh.notice := none, rqh.events := none })
        else .next s

/-- BREAK_ENDS_GRANT (R189): in REQUEST, ANSWER and TRAILER the second consecutive break frame ends the grant with no counter, no flag and no
side effect; in FREE it leaves no trace (log 2). The message is discarded: that the buffer, the steps and the counts keep what they hold until they are
next set is the model's choice (log 23). LINK_BREAK (R177): the run that reaches 16 break frames is counted once. The second frame of such a run
has ended any grant and its free frames any fairness hold, so the row applies in FREE and leaves no hold; during a grant it leaves no trace (log 2). Each
row stands for the end of the last frame of its run (log 4). -/
def Obligations.BreaksEndTheGrantAndAreCounted : Prop :=
  ∀ (s : State) (a : BitVec 4),
    s.running = true →
      (s.link.holder = some a → exec .breakEndsGrant s =
        if s.link.phase = .free then .next s
        else .next (State.nextFrame
          { s with
            link.phase := .free, link.holder := none, link.fairness := some ⟨a, 0⟩, link.breakRun := 2
            rqh.notice := none, rqh.events := none })) ∧
      exec .linkBreak s =
        if s.link.phase = .free ∧ s.link.breakRun < 16 then
          .next (State.nextFrame { s with link.breakRun := 16, link.fairness := none, counters.linkBreaks := min 65535 (s.counters.linkBreaks + 1) })
        else .next s

/-- FRAME_END takes the event that its frame brings about (R176 to R179, R187 to R189): a contention, the completion of the answer, the
timeout of a step in its 64th unmet frame, the second break frame of a grant, the sixteenth break frame. A free frame with nothing on UP
changes nothing but the break run. A break frame resolves no contention and takes no step, but counts in the break run, toward a step that waits on the
station, as a frame of TRAILER and toward the end of the fairness hold; a step that times out in it ends the grant as a timeout. -/
def Obligations.FrameEndTakesTheEventItBrings : Prop :=
  ∀ (s : State) (up : BitVec 32),
    s.running = true →
      let isBreak := decide (up.extractLsb' 0 8 = 0#8)
      let uv := up.getMsbD 16
      let ua := up.getMsbD 17
      let waits := (s.link.phase = .request ∧ s.link.recvStep ≠ .byte) ∨ s.link.phase = .answer
      let unmet := (s.link.phase = .request ∧ s.link.recvStep = .first ∧ uv = false) ∨
        (s.link.phase = .request ∧ s.link.recvStep = .clear ∧ uv = true) ∨
        (s.link.phase = .answer ∧ s.link.sendStep = .offer ∧ ua = false) ∨
        (s.link.phase = .answer ∧ s.link.sendStep = .release ∧ ua = true)
      (s.link.phase = .free → isBreak = false → uv = false →
        exec (.frameEnd up) s = exec (.contention (up.extractLsb' 28 4)) s) ∧
      (s.link.phase = .free → isBreak = false → uv = true → s.link.fairness = none →
        exec (.frameEnd up) s = .next (State.nextFrame { s with link.breakRun := 0 })) ∧
      (s.link.phase = .trailer → s.link.frames = 1 → isBreak = false →
        exec (.frameEnd up) s = exec .answerCompletion s) ∧
      (unmet → s.link.frames = 63 → isBreak = false →
        exec (.frameEnd up) s = exec .handshakeTimeout s) ∧
      (unmet → s.link.frames < 63 → isBreak = false →
        exec (.frameEnd up) s = .next (State.nextFrame { s with link.breakRun := 0, link.frames := s.link.frames + 1 })) ∧
      (waits → s.link.frames = 63 → isBreak = true → s.link.breakRun ≤ 1 →
        ∃ t, exec .handshakeTimeout s = .next t ∧ exec (.frameEnd up) s = .next { t with link.breakRun := s.link.breakRun + 1 }) ∧
      (s.link.phase = .request ∨ s.link.phase = .answer → s.link.breakRun = 0 → isBreak = true → ¬ (waits ∧ 63 ≤ s.link.frames) →
        exec (.frameEnd up) s = .next (State.nextFrame
          { s with link.breakRun := 1, link.frames := if waits then s.link.frames + 1 else s.link.frames })) ∧
      (s.link.phase = .trailer → s.link.frames = 0 → s.link.breakRun = 0 → isBreak = true →
        exec (.frameEnd up) s = .next (State.nextFrame { s with link.breakRun := 1, link.frames := 1 })) ∧
      (s.link.phase = .trailer → s.link.frames = 1 → s.link.breakRun = 0 → isBreak = true →
        ∃ t, exec .answerCompletion s = .next t ∧ exec (.frameEnd up) s = .next { t with link.breakRun := 1 }) ∧
      (s.link.phase ≠ .free → s.link.breakRun = 1 → isBreak = true → ¬ (waits ∧ 63 ≤ s.link.frames) →
        exec (.frameEnd up) s = exec .breakEndsGrant s) ∧
      (s.link.phase = .free → s.link.breakRun ≤ 16 → isBreak = true →
        exec (.frameEnd up) s = .next (State.nextFrame
          { s with
            link.breakRun := min 16 (s.link.breakRun + 1)
            link.fairness := s.link.fairness.bind (fun h => if h.freeFrames = 0 then some ⟨h.address, 1⟩ else none)
            counters.linkBreaks :=
              if s.link.breakRun = 15 then min 65535 (s.counters.linkBreaks + 1) else s.counters.linkBreaks })) ∧
      (s.link.phase = .free → s.link.fairness = none → s.link.breakRun = 15 → isBreak = true →
        exec (.frameEnd up) s = exec .linkBreak s)

/-- The byte handshake of REQUEST carries a whole message (R181, R182, R183): from step FIRST with an empty buffer, each byte placed with UV 1
and released with UV 0, and three frames in which UV stays clear, lead to what the command of the message says, for every request row
and every message that the envelope refuses (log 4). -/
def Obligations.FramesCarryTheRequest : Prop :=
  ∀ (s : State) (i : Instr) (m : List Byte) (rest : List Instr),
    s.running = true → s.link.phase = .request → s.link.recvStep = .first → s.link.recvBuf = [] → s.link.overLength = false →
    (i.message = some m ∨
      (i = .envelopeCheckRefusal m ∧ m ≠ [] ∧ ∀ k x, openEnvelope (m.take 64) (decide (64 < m.length)) ≠ .request k x)) →
      let frames := m.flatMap (fun b => [upFrame true b, upFrame false 0]) ++ List.replicate 3 (upFrame false 0)
      Sys2Proof.core.run (2 * m.length + 3) { s with pending := frames.map .frameEnd ++ rest } =
        Sys2Proof.core.run 1 { s with pending := i :: rest }

/-- The byte handshake of ANSWER (R186, R187): from the offer of the first byte, each byte acknowledged and released, and two frames of TRAILER, lead
to the answer's completion. -/
def Obligations.FramesCarryTheAnswer : Prop :=
  ∀ (s : State) (rest : List Instr),
    s.running = true → s.link.phase = .answer → s.link.sendStep = .offer → s.link.sendPos = 0 → s.link.answer ≠ [] →
      let frames := s.link.answer.flatMap (fun _ => [uaFrame true, uaFrame false]) ++ List.replicate 2 (uaFrame false)
      Sys2Proof.core.run (2 * s.link.answer.length + 2) { s with pending := frames.map .frameEnd ++ rest } =
        Sys2Proof.core.run 1
          { s with
            pending := .answerCompletion :: rest, link.phase := .trailer, link.sendStep := .release, link.frames := 1, link.breakRun := 0
            link.sendPos := s.link.answer.length - 1 }

/-- After FRAME_END, DN carries the state as it then stands (R170, R176, R192): GRANT, the four attention bits, the answer byte on offer with DV, DA in
step CLEAR, and 1 in bit periods 18 to 31; the first bit period is the most significant bit of the word (log 7). -/
def Obligations.FrameCarriesTheState : Prop :=
  ∀ (s : State) (up : BitVec 32),
    s.running = true →
      ∃ t, exec (.frameEnd up) s = .next t ∧
        let offers := decide (t.link.phase = .answer ∧ t.link.sendStep = .offer)
        t.link.dn.extractLsb' 28 4 = t.link.holder.getD 0#4 ∧
        (∀ p : Position, t.link.dn.getMsbD (4 + p.1) =
          decide ((t.station p).pendingSet ≠ 0#32 ∨ (t.station p).flags &&& (t.station p).eventMask ≠ 0#5)) ∧
        t.link.dn.extractLsb' 16 8 = (if offers then t.link.answer.getD t.link.sendPos 0#8 else 0#8) ∧
        t.link.dn.getMsbD 16 = offers ∧
        t.link.dn.getMsbD 17 = decide (t.link.phase = .request ∧ t.link.recvStep = .clear) ∧
        t.link.dn.extractLsb' 0 14 = 0x3FFF#14

/-! ## Messages -/

/-- The envelope opens every message that a station seals (R183, R190, R193): kind byte, body length, body of up to 61 bytes, check byte. -/
def Obligations.EnvelopeOpensWhatItSeals : Prop :=
  ∀ (k : Kind) (body : List Byte),
    body.length ≤ 61 →
      openEnvelope (requestMessage k body) false = .request k body ∧
      (requestMessage k body).length = body.length + 3 ∧ k.code.msb = false

/-- The check byte (R190): the register starts from 0; each byte is added without carry and the register shifted left eight times, 07h added
without carry where the bit shifted out is 1. The part accepts a request only with it, and closes every answer with it. Two messages that differ
in one byte have different check bytes. -/
def Obligations.CheckByteCatchesOneChangedByte : Prop :=
  crc8 [] = 0#8 ∧ crc8 [0x62#8] = 0x29#8 ∧ crc8 [0x62#8, 0x00#8] = 0xDF#8 ∧
  (∀ (bs : List Byte) (b : Byte), crc8 (bs ++ [b]) =
    (List.range 8).foldl (fun (r : Byte) _ => (r <<< 1) ^^^ (if r.msb then 0x07#8 else 0x00#8)) (crc8 bs ^^^ b)) ∧
  (∀ (m : List Byte) (long : Bool) (k : Kind) (body : List Byte),
    openEnvelope m long = .request k body → m.getLast? = some (crc8 m.dropLast)) ∧
  (∀ (b : Byte) (st : Status) (body : List Byte), ∃ m, answerMessage b st body = m ++ [crc8 m]) ∧
  (∀ (bs cs : List Byte) (b c : Byte), b ≠ c → crc8 (bs ++ b :: cs) ≠ crc8 (bs ++ c :: cs))

/-- What a sender packs into POST READING, the part unpacks (R185, R195): identifiers carried or repeated, days by their codes, volumes,
qualities and intervals. The layouts that a station both reads and writes (R191, R194, R198) read back as they were sent: parameters, links, ring
entries, clock times. -/
def Obligations.BodiesReadBack : Prop :=
  (∀ (base : BitVec 16) (e : PackedEntry) (es : List PackedEntry),
    es.length ≤ 7 → e.identifier ≠ none →
    (∀ x ∈ e :: es, x.interval.1 ≤ 95 ∧ x.identifier ≠ some 0#32 ∧ 0 ≤ x.day base.toNat ∧ x.day base.toNat ≤ 65535) →
      readReadings (packReadings base.toNat (e :: es)) = .ok (unpacked base.toNat 0 (e :: es))) ∧
  (∀ (b : Byte) (wlen : Nat) (ps : Params), ParamsInRange wlen ps →
    ps.bytes.length = 15 ∧ (readConfig (b :: ps.bytes)).bind (·.params) = some ps ∧
    (readConfig (b :: ps.bytes)).map (·.district) = some b) ∧
  (∀ l : Option MeterLink, resolveLink (linkField (linkByte l)) = some l) ∧
  (∀ (b : Byte) (ring : List RingEntry), ring.length ≤ 255 →
    (∀ e ∈ ring, e.nightDay ≤ 65535 ∧ -2147483648 ≤ e.figure ∧ e.figure ≤ 2147483647) →
    readLoadRing (b :: byte ring.length :: ring.flatMap RingEntry.bytes) = some ⟨b, ring⟩) ∧
  (∀ t : ClockTime, t.day ≤ 65535 → t.minute ≤ 65535 → readSetTime (be16 t.day ++ be16 t.minute) = some t)

/-! ## Requests in general -/

/-- The table of R160: a request whose kind the requester's role holds no right for is answered ROLE and has no effect. -/
def Obligations.RoleWithoutRightIsRefused : Prop :=
  ∀ (s : State) (p : Position) (r : StationRole) (i : Instr) (k : Kind) (body : List Byte),
    s.Asks p r → i.requestKind = some k → i.requestBody = some body → body.length ≤ 61 →
    (k ∈ [Kind.setTime, .setWindow, .restartEngine, .setStation, .clearCounters] ∧ r ≠ .telemetry ∨
     k ∈ [Kind.closeNight, .configureDistrict, .setService, .bindMeter, .enableMeter, .disableMeter, .forgetStrays, .holdDistrict,
          .releaseDistrict, .setBaselineMode, .loadRing, .clearRing, .acknowledge, .markRepaired] ∧ (r = .gateway ∨ r = .pressure) ∨
     k = .postReading ∧ r = .pressure ∨ k = .postPressure ∧ r = .gateway) →
      exec i s = .next (s.refusal k body .role)

/-- A body that is not of the size the catalogue gives for the kind is refused LENGTH by the Request Handler, with no effect and without moving the
length-errors counter (R184, R193). A request that names a district above 31 is refused RANGE, with no effect (R66, R68, R73, R74, R80, R81, R128,
R132, R134, R150, R152, R157). So for every role that holds the right for the kind (R160). -/
def Obligations.RequestsOutOfFormAreRefused : Prop :=
  ∀ (s : State) (p : Position) (r : StationRole) (i : Instr) (k : Kind) (body : List Byte),
    s.Asks p r → r.HoldsRight k → i.requestKind = some k → i.requestBody = some body → body.length ≤ 61 →
    (k = .postReading ∨ k = .postPressure → s.nck.clockSet = true) →
    let size : Nat := match k with
      | .closeNight | .restartEngine | .readStrayList | .forgetStrays | .readQueue | .takeNotice | .readEvents | .readStatus
      | .clearCounters => 0
      | .enableMeter | .disableMeter | .readMeter | .releaseDistrict | .readDistrict | .readResult | .clearRing | .readRing
      | .acknowledge | .markRepaired | .readWatch | .setEventMask => 1
      | .setService => 2
      | .setWindow | .holdDistrict => 3
      | .setTime => 4
      | .postPressure | .setBaselineMode => 6
      | .bindMeter => 8
      | .setStation => 9
      | .configureDistrict => 16
      | .loadRing => 2 + 6 * (body.getD 1 0).toNat
      | .postReading => max 6 body.length
    (body.length ≠ size → exec i s = .next (s.refusal k body .length)) ∧
    (body.length = size → 32 ≤ (body.getD 0 0).toNat →
      k ∈ [Kind.releaseDistrict, .readDistrict, .readResult, .clearRing, .readRing, .acknowledge, .markRepaired, .readWatch, .setService,
        .holdDistrict, .setBaselineMode, .configureDistrict, .postPressure, .loadRing] →
      exec i s = .next (s.refusal k body .range))

/-! ## Requests of the Night Clock -/

/-- SET TIME while the clock is not set (R11, R18): out of range RANGE; else the clock is set with the divider at 0, every hold that the time
reaches expires, and the night opens as at its window start if the time lies in the window of an eligible night, else DAYTIME. -/
def Obligations.FirstSetTimePlacesTheClock : Prop :=
  ∀ (s : State) (p : Position) (d1 d0 m1 m0 : Byte),
    s.Asks p .telemetry → s.nck.clockSet = false →
      let t : ClockTime := ⟨d1.toNat * 256 + d0.toNat, m1.toNat * 256 + m0.toNat⟩
      let placed : State := { s with nck.clock := t, nck.divider := 0, nck.clockSet := true, nck.phase := .daytime }
      let expired := placed.after (allDistricts.map .holdExpiry)
      let start := s.windowStartOf t.day
      exec (.setTime [d1, d0, m1, m0]) s = .next
        (if 1439 < t.minute then s.refusal .setTime [d1, d0, m1, m0] .range
         else if ClockTime.NotAfter start t ∧ ClockTime.Before t (s.windowEndOf t.day) ∧ s.eligible t.day = true then
           State.answered (((expired.clockAt start).after [.windowStart]).clockAt t) .setTime [d1, d0, m1, m0] .ok []
         else State.answered expired .setTime [d1, d0, m1, m0] .ok [])

/-- SET TIME with the clock set, to a time that is not later (R11, R13, R14): the same time restarts the divider; an earlier time is accepted in DAYTIME
after the night mark, and in a night within the current interval; else STATE. No event is taken and no hold changes. A trim within the current interval does not
change whether any interval has ended (R14, R3). -/
def Obligations.SetTimeBackOrSame : Prop :=
  ∀ (s : State) (p : Position) (d1 d0 m1 m0 : Byte) (day i : Nat),
    s.Asks p .telemetry → s.nck.clockSet = true → s.nck.phase ≠ .stopped →
      let t : ClockTime := ⟨d1.toNat * 256 + d0.toNat, m1.toNat * 256 + m0.toNat⟩
      ¬ ClockTime.Before s.nck.clock t →
      (exec (.setTime [d1, d0, m1, m0]) s = .next
        (if 1439 < t.minute then s.refusal .setTime [d1, d0, m1, m0] .range
         else if t = s.nck.clock ∨
             (s.nck.phase = .daytime ∧ s.nck.nightMark.all (fun x => decide (ClockTime.Before x t)) = true) ∨
             (s.nck.phase ≠ .daytime ∧ t.day = s.nck.clock.day ∧ t.minute / 15 = s.nck.clock.minute / 15) then
           State.answered { s with nck.clock := t, nck.divider := 0 } .setTime [d1, d0, m1, m0] .ok []
         else s.refusal .setTime [d1, d0, m1, m0] .state)) ∧
      (t.minute ≤ 1439 → s.nck.clock.minute ≤ 1439 → t.day = s.nck.clock.day → t.minute / 15 = s.nck.clock.minute / 15 → i ≤ 95 →
        ((s.clockAt t).IntervalEnded day i ↔ s.IntervalEnded day i))

/-- SET TIME to a later time (R12, R18, R85): every event of the span is taken at its own time, in order of time, each followed by the choice it makes
due: the window end and grace expiry of the night in progress, the latest eligible window start with its own window end and grace
expiry, and every hold expiry. The order is stated where no two events share a time, and where no choice is due before (logs 9 and 10). -/
def Obligations.ForwardSetTakesTheEventsInOrder : Prop :=
  ∀ (s : State) (p : Position) (d1 d0 m1 m0 : Byte) (next : Option Nat) (events : List (ClockTime × Instr)),
    s.Asks p .telemetry → ClockLaw s → NightPositionLaw s → s.nck.clockSet = true → s.choiceDue = false →
      let t : ClockTime := ⟨d1.toNat * 256 + d0.toNat, m1.toNat * 256 + m0.toNat⟩
      let falls := fun x : ClockTime => ClockTime.Before s.nck.clock x ∧ ClockTime.NotAfter x t
      let closing := fun n : Nat => (s.windowEndOf n, Instr.windowEnd) ::
        if s.nck.grace = 0 then [] else [(s.graceExpiryOf n, Instr.graceExpiry)]
      let possible := (if s.nightInProgress then s.nck.nightDay.toList.flatMap closing else []) ++
        next.toList.flatMap (fun n => (s.windowStartOf n, Instr.windowStart) :: closing n) ++
        allDistricts.filterMap (fun d => (s.district d).hold.map (fun h => (h.expiry, Instr.holdExpiry d)))
      ClockTime.Before s.nck.clock t → t.minute ≤ 1439 →
      (∀ n, next = some n → falls (s.windowStartOf n) ∧ s.eligible n = true) →
      (∀ n, falls (s.windowStartOf n) → s.eligible n = true → ∃ m, next = some m ∧ n ≤ m) →
      events.Perm (possible.filter (fun e => decide (falls e.1))) →
      events.Pairwise (fun e f => ClockTime.Before e.1 f.1) →
        exec (.setTime [d1, d0, m1, m0]) s = .next
          (State.answered
            { events.foldl (fun (u : State) e => (u.clockAt e.1).after [e.2, .choice]) s with nck.clock := t, nck.divider := 0 }
            .setTime [d1, d0, m1, m0] .ok [])

/-- SET WINDOW (R15): STATE while a night is in progress, RANGE where a field or a relation fails, else the three settings are replaced together. -/
def Obligations.SetWindowReplacesTheSettings : Prop :=
  ∀ (s : State) (p : Position) (a b c : Byte),
    s.Asks p .telemetry →
      exec (.setWindow [a, b, c]) s = .next
        (if s.nck.phase = .collecting ∨ s.nck.phase = .settling ∨ s.nck.phase = .closing then s.refusal .setWindow [a, b, c] .state
         else if 95 < a.toNat ∨ b.toNat < 4 ∨ 16 < b.toNat ∨ 48 < c.toNat ∨ 96 < a.toNat + b.toNat ∨
             ∃ d : District, b.toNat < (s.district d).params.m then s.refusal .setWindow [a, b, c] .range
         else State.answered { s with nck.wstart := a.toNat, nck.wlen := b.toNat, nck.grace := c.toNat } .setWindow [a, b, c] .ok [])

/-- CLOSE NIGHT (R16): in SETTLING it is the grace expiry of the current night taken at once, and the scheduled grace expiry is then not taken;
in every other phase it is refused STATE. -/
def Obligations.CloseNightIsTheGraceExpiryAtOnce : Prop :=
  ∀ (s : State) (p : Position) (r : StationRole) (n : Nat),
    s.Asks p r → (r = .telemetry ∨ r = .service) →
      (s.nck.phase ≠ .settling → exec (.closeNight []) s = .next (s.refusal .closeNight [] .state)) ∧
      (s.nck.phase = .settling → s.nck.nightDay = some n → ∃ t u, exec .graceExpiry (s.clockAt (s.graceExpiryOf n)) = .next t ∧
        u = State.answered (t.clockAt s.nck.clock) .closeNight [] .ok [] ∧
        exec (.closeNight []) s = .next u ∧ (u.nck.phase = .closing ∨ u.nck.phase = .daytime) ∧ u.nck.nightMark = s.nck.nightMark ∧
        exec .graceExpiry (u.clockAt (s.graceExpiryOf n)) = .next (u.clockAt (s.graceExpiryOf n)))

/-- RESTART ENGINE (R17, R94): the evaluation and the queue are dropped with no result, the grid is purged, every district is IDLE and unheld, the holders
are told by HOLD_ENDED, which leaves a noted clearing (R169), the phase is DAYTIME or STOPPED; everything else is kept. "Choice due" is left clear, although holds end (log 21). -/
def Obligations.RestartKeepsWhatItDoesNotName : Prop :=
  ∀ (s : State) (p : Position),
    s.Asks p .telemetry →
      ∃ t : State, exec (.restartEngine []) s = .next t ∧
        t = State.answered { s with
          nck.phase := if s.nck.clockSet then .daytime else .stopped
          slots := t.slots, pressure := t.pressure, districts := t.districts, queue := [], flight := none, choiceDue := false
          stations := t.stations
          rqh.events := s.noteAfterRaising (fun q =>
            if ∃ d : District, (s.district d).hold.map (·.holder) = some q then 0x04#5 else 0#5) } .restartEngine [] .ok [] ∧
        (∀ i : SlotIndex, t.slot i = { s.slot i with
          heldMean := (let v := ((s.slot i).cells.1.filter (fun c => decide (c.state ≠ .empty))).map (·.volume)
                       if v = [] then (s.slot i).heldMean else some (v.sum / v.length))
          cells := Table.replicate 16 ⟨.empty, 0⟩ }) ∧
        (∀ d : District, ∀ c : Fin 16, (t.pressure.get d).get c = none) ∧
        (∀ d : District, t.district d = { s.district d with nightState := .idle, hold := none }) ∧
        (∀ q : Position, t.station q =
          if (s.station q).role ≠ none ∧ ∃ d : District, (s.district d).hold.map (·.holder) = some q then
            { s.station q with flags := (s.station q).flags ||| 0x04#5 } else s.station q)

/-! ## Requests of the Meter Directory -/

/-- BIND METER (R23, R24, R168): RANGE, STATE, BUSY and LOCKED in this order; else the slot holds the new identity, disabled, with no held mean, counters 0
and every cell EMPTY, and CONFIG_CHANGED is raised for the other stations. UNBIND METER is the form with identifier 0 and no links. -/
def Obligations.BindMeterWritesTheSlot : Prop :=
  ∀ (s : State) (p : Position) (r : StationRole) (b i3 i2 i1 i0 l1 l2 x : Byte) (i : SlotIndex),
    s.Asks p r → (r = .telemetry ∨ r = .service) → b.toNat = i.1 →
      let body := [b, i3, i2, i1, i0, l1, l2, x]
      let identifier := ((i3.toNat * 256 + i2.toNat) * 256 + i1.toNat) * 256 + i0.toNat
      let noRole := fun l : Byte => l.getLsbD 7 = true ∧ l.getLsbD 6 = true ∧ l.getLsbD 5 = true
      let link := fun l : Byte => if l.getLsbD 7 then
        some (MeterLink.mk (Fin.ofNat 32 l.toNat)
          (if l.getLsbD 6 then .user else if l.getLsbD 5 then .outlet else .inlet)) else none
      let names := fun d : District => (s.slot i).Names d ∨ (link l1).map (·.district) = some d ∨ (link l2).map (·.district) = some d
      exec (.unbindMeter b) s = exec (.bindMeter [b, 0, 0, 0, 0, 0, 0, 0]) s ∧
      exec (.bindMeter body) s = .next
        (if noRole l1 ∨ noRole l2 ∨ (link l2 ≠ none ∧ (link l1).map (·.district) = (link l2).map (·.district)) ∨
            (identifier ≠ 0 ∧ link l1 = none) ∨ (identifier = 0 ∧ (link l1 ≠ none ∨ link l2 ≠ none)) ∨
            (link l2 ≠ none ∧ link l1 = none) then s.refusal .bindMeter body .range
         else if (s.slot i).enabled = true then s.refusal .bindMeter body .state
         else if ∃ d : District, names d ∧ s.IsEvaluating d then s.refusal .bindMeter body .busy
         else if ∃ d : District, names d ∧ s.HeldByOther p d then s.refusal .bindMeter body .locked
         else State.answered
           ((s.modSlot i (fun _ =>
              { identifier := identifier, enabled := false, primary := link l1, secondary := link l2
                protect := decide (identifier ≠ 0) && x.getLsbD 0, heldMean := none, duplicates := 0, conflicts := 0
                cells := Table.replicate 16 ⟨.empty, 0⟩ })).configChanged p) .bindMeter body .ok [])

/-- ENABLE METER (R25, R26): STATE when unbound, OK with no effect when enabled, DUPLICATE_ID, BUSY, LOCKED; else the slot is enabled with its cells
kept and its identifier leaves the stray list. DISABLE METER (R27, R28, R54): OK with no effect when disabled, BUSY, LOCKED; else the slot is disabled
with everything else of it kept, and in SETTLING each linked OPEN district that is then complete joins the queue with reason COMPLETE, in
index order. -/
def Obligations.MetersGoIntoAndOutOfUse : Prop :=
  ∀ (s : State) (p : Position) (r : StationRole) (b : Byte) (i : SlotIndex),
    s.Asks p r → (r = .telemetry ∨ r = .service) → b.toNat = i.1 →
      let evaluating := ∃ d : District, (s.slot i).Names d ∧ s.IsEvaluating d
      let held := ∃ d : District, (s.slot i).Names d ∧ s.HeldByOther p d
      let off := s.modSlot i (fun x => { x with enabled := false })
      let joins := allDistricts.filter (fun d => decide (s.nck.phase = .settling ∧ (s.slot i).Names d ∧
        (s.district d).nightState = .opened ∧ off.IsComplete d))
      exec (.enableMeter [b]) s = .next
        (if (s.slot i).identifier = 0 then s.refusal .enableMeter [b] .state
         else if (s.slot i).enabled = true then s.answered .enableMeter [b] .ok []
         else if ∃ j : SlotIndex, (s.slot j).enabled = true ∧ (s.slot j).identifier = (s.slot i).identifier then
           s.refusal .enableMeter [b] .duplicateId
         else if evaluating then s.refusal .enableMeter [b] .busy
         else if held then s.refusal .enableMeter [b] .locked
         else State.answered
           (State.configChanged
             { s.modSlot i (fun x => { x with enabled := true }) with
               strays := s.strays.filter (fun x => decide (x.identifier ≠ (s.slot i).identifier)) } p) .enableMeter [b] .ok []) ∧
      if (s.slot i).enabled = false then exec (.disableMeter [b]) s = .next (s.answered .disableMeter [b] .ok [])
      else if evaluating then exec (.disableMeter [b]) s = .next (s.refusal .disableMeter [b] .busy)
      else if held then exec (.disableMeter [b]) s = .next (s.refusal .disableMeter [b] .locked)
      else ∃ t : State, exec (.disableMeter [b]) s = .next t ∧
        t = State.answered (State.configChanged { off with
          districts := t.districts, queue := s.queue ++ joins.map (fun d => ⟨d, .complete⟩)
          choiceDue := s.choiceDue || decide (joins ≠ [] ∧ s.flight = none) } p) .disableMeter [b] .ok [] ∧
        ∀ d : District, t.district d = if d ∈ joins then { s.district d with nightState := .queued } else s.district d

/-- FORGET STRAYS (R35): the stray list is empty at execution and stays so if the answer is abandoned; an identifier heard after it is recorded with
sighting count 1; gateways and pressure controllers are refused ROLE. -/
def Obligations.ForgetStraysEmptiesTheList : Prop :=
  ∀ (s : State) (p : Position) (r : StationRole) (identifier day : Nat),
    s.Asks p r →
      ((r = .gateway ∨ r = .pressure) → exec (.forgetStrays []) s = .next (s.refusal .forgetStrays [] .role)) ∧
      ((r = .telemetry ∨ r = .service) →
        ∃ t : State, exec (.forgetStrays []) s = .next t ∧ t = State.answered { s with strays := [] } .forgetStrays [] .ok [] ∧
          (t.after [.breakEndsGrant]).strays = [] ∧ (t.after [.handshakeTimeout]).strays = [] ∧
          sighted t.strays identifier day = [⟨identifier, 1, day⟩])

/-! ## Readings -/

/-- POST READING (R20, R41, R42, R185, R195): ROLE from a PRESSURE station, NO_TIME while the clock is not set, LENGTH below 6 bytes, RANGE for an entry
count outside 1..8, LENGTH for another size than count and identifier mask give, RANGE if an entry has identifier 0, an interval above 95 or a day
outside 0..65,535; a refused request has no effect. Else the entries of the packed body are examined one after another, each in the state
the one before has left, and the answer carries their number and outcomes in order. Entry k begins behind the entries before it, and its
identifier is that of the nearest entry from k down that carries one. -/
def Obligations.PostReadingExaminesInOrder : Prop :=
  ∀ (s : State) (p : Position) (r : StationRole) (body : List Byte),
    s.Asks p r → body.length ≤ 61 →
      let at_ := fun i : Nat => (body.getD i 0).toNat
      let count := at_ 0
      let carries := fun k : Nat => decide (k = 0) || (body.getD 1 0).getLsbD k
      let start := fun k : Nat => 6 + 4 * k + 4 * ((List.range k).filter carries).length
      let identifier := fun k : Nat =>
        let i := start (((List.range (k + 1)).filter carries).getLastD 0)
        ((at_ (i + 1) * 256 + at_ (i + 2)) * 256 + at_ (i + 3)) * 256 + at_ (i + 4)
      let day := fun k : Nat => ((at_ 4 * 256 + at_ 5 : Nat) : Int) +
        (match (at_ 2 * 256 + at_ 3) / 4 ^ k % 4 with
         | 0 => 0
         | 1 => -1
         | 2 => -2
         | _ => 1)
      let volume := fun k : Nat =>
        let i := start k + (if carries k then 5 else 1)
        (at_ i * 256 + at_ (i + 1)) * 256 + at_ (i + 2)
      let entry := fun k : Nat =>
        Entry.mk (identifier k) (day k).toNat (at_ (start k) % 128) (volume k) (decide (128 ≤ at_ (start k)))
      let refused := fun st : Status => Host.Outcome.next (s.refusal .postReading body st)
      let visit := fun (a : State × List Byte) (e : Entry) => ((a.1.examine e).1, a.2 ++ [(a.1.examine e).2.code])
      let examined := ((List.range count).map entry).foldl visit (s, [])
      exec (.postReading body) s =
        if r = .pressure then refused .role
        else if s.nck.clockSet = false then refused .noTime
        else if body.length < 6 then refused .length
        else if count < 1 ∨ 8 < count then refused .range
        else if body.length ≠ start count then refused .length
        else if ∃ k ∈ List.range count, identifier k = 0 ∨ 95 < at_ (start k) % 128 ∨ day k < 0 ∨ 65535 < day k then refused .range
        else .next (examined.1.answered .postReading body .ok (byte count :: examined.2))

/-- The tests of an entry before its cell (R44 to R47, R34, R50), in their order: UNKNOWN_METER with a sighting, EARLY, OUTSIDE_WINDOW, LATE,
NOT_NEEDED; none of them changes a cell. An entry that passes them meets its cell with its volume clamped to 1,048,575 as an ESTIMATED
value (R39, R43). -/
def Obligations.EntryTestsInOrder : Prop :=
  ∀ (s : State) (e : Entry) (i : SlotIndex),
    ((∀ j : SlotIndex, ¬ ((s.slot j).enabled = true ∧ (s.slot j).identifier = e.identifier)) →
      let old := s.strays.filter (fun x => decide (x.identifier = e.identifier))
      let others := s.strays.filter (fun x => decide (x.identifier ≠ e.identifier))
      s.examine e =
        ({ s with
           counters.unknownMeters := min 65535 (s.counters.unknownMeters + 1)
           strays := (match old with
                      | _ :: _ => others
                      | [] => if s.strays.length < 8 then s.strays else s.strays.tail) ++
             [⟨e.identifier, match old with
                             | x :: _ => min 255 (x.count + 1)
                             | [] => 1, s.nck.clock.day⟩] }, .unknownMeter)) ∧
    ((s.slot i).enabled = true → (s.slot i).identifier = e.identifier →
      (∀ j : SlotIndex, (s.slot j).enabled = true → (s.slot j).identifier = e.identifier → j = i) →
      let accepts := (∃ d : District, (s.slot i).Names d ∧ ((s.district d).nightState = .opened ∨ (s.district d).nightState = .queued))
      let closed := (∃ d : District, (s.slot i).Names d ∧ ((s.district d).nightState = .evaluating ∨ (s.district d).nightState = .done))
      if ¬ s.IntervalEnded e.day e.interval ∨ s.nck.nightDay.any (fun n => decide (n < e.day)) = true then
        s.examine e = (s, .early)
      else if s.nck.nightDay = some e.day ∧ (e.interval < s.nck.wstart ∨ s.nck.wstart + s.nck.wlen ≤ e.interval) then
        s.examine e = (s, .outsideWindow)
      else if s.nck.nightDay = none ∨ s.nck.nightDay.any (fun n => decide (e.day < n)) = true ∨ s.nightInProgress = false ∨
          (¬ accepts ∧ closed) then
        s.examine e = ({ s with counters.readingsLate := min 65535 (s.counters.readingsLate + 1) }, .late)
      else if ¬ accepts then s.examine e = (s, .notNeeded)
      else if e.volume ≤ 1048575 then s.examine e = s.fileEntry i e.interval e.volume e.estimated false
      else s.examine e = s.fileEntry i e.interval 1048575 true true)

/-- The cell rules (R43, R48, R49, R50, R32): for an entry of slot i that passes the tests, cell interval − WSTART, outcome, meter counters, the stored counter, and
in SETTLING the completion checks of the slot's districts after a stored entry. -/
def Obligations.EntryMeetsItsCell : Prop :=
  ∀ (s : State) (i : SlotIndex) (c : Fin 16) (interval volume : Nat) (estimated clamped : Bool),
    interval = s.nck.wstart + c.1 → (clamped = true → volume = 1048575 ∧ estimated = true) →
      let sl := s.slot i
      let cell := sl.cells.get c
      let quality : CellState := if estimated then .estimated else .good
      let outcome : EntryOutcome :=
        if cell.state = .empty then (if clamped then .clamped else .filed)
        else if cell.state = .good ∧ estimated = true then .downgrade
        else if cell.state = .estimated ∧ estimated = false then .upgraded
        else if cell.volume = volume then .duplicate
        else if sl.protect then .keptFirst else if clamped then .clamped else .replaced
      let stores : Bool := decide (outcome ∈ [EntryOutcome.filed, .clamped, .upgraded, .replaced])
      let slot' : Slot := { sl with
        cells := if stores then sl.cells.set c ⟨quality, volume⟩ else sl.cells
        duplicates := if outcome = .duplicate then min 255 (sl.duplicates + 1) else sl.duplicates
        conflicts := if outcome = .keptFirst ∨ (cell.state = quality ∧ cell.volume ≠ volume) then min 255 (sl.conflicts + 1) else sl.conflicts }
      let filed : State := { s.modSlot i (fun _ => slot') with
        counters.readingsStored := if stores then min 65535 (s.counters.readingsStored + 1) else s.counters.readingsStored }
      let joins := allDistricts.filter (fun d => decide (stores = true ∧ s.nck.phase = .settling ∧ sl.Names d ∧
        (s.district d).nightState = .opened ∧ filed.IsComplete d))
      ∃ t, s.fileEntry i interval volume estimated clamped = (t, outcome) ∧
        t = { filed with
          districts := t.districts, queue := s.queue ++ joins.map (fun d => ⟨d, .complete⟩)
          choiceDue := s.choiceDue || decide (joins ≠ [] ∧ s.flight = none) } ∧
        ∀ d : District, t.district d = if d ∈ joins then { s.district d with nightState := .queued } else s.district d

/-- POST PRESSURE (R51 to R53, R20): NO_TIME, RANGE; else one outcome, and a sample that reaches its cell replaces what it held. -/
def Obligations.PostPressureFilesOneSample : Prop :=
  ∀ (s : State) (p : Position) (r : StationRole) (b y1 y0 i v1 v0 : Byte) (d : District),
    s.Asks p r → (r = .telemetry ∨ r = .service ∨ r = .pressure) → b.toNat = d.1 → s.nck.wlen ≤ 16 →
      let body := [b, y1, y0, i, v1, v0]
      let day := y1.toNat * 256 + y0.toNat
      let sent := (v1.toNat % 16) * 256 + v0.toNat
      let night := (s.district d).nightState
      let c : Fin 16 := Fin.ofNat 16 (i.toNat - s.nck.wstart)
      let tells := fun (u : State) (o : EntryOutcome) => Host.Outcome.next (u.answered .postPressure body .ok [o.code])
      exec (.postPressure body) s =
        if s.nck.clockSet = false then .next (s.refusal .postPressure body .noTime)
        else if 95 < i.toNat then .next (s.refusal .postPressure body .range)
        else if ¬ s.IntervalEnded day i.toNat ∨ s.nck.nightDay.any (fun n => decide (n < day)) = true then tells s .early
        else if s.nck.nightDay = some day ∧ (i.toNat < s.nck.wstart ∨ s.nck.wstart + s.nck.wlen ≤ i.toNat) then tells s .outsideWindow
        else if s.nck.nightDay = none ∨ s.nck.nightDay.any (fun n => decide (day < n)) = true ∨ s.nightInProgress = false ∨
            night = .evaluating ∨ night = .done then tells s .late
        else if night = .idle ∨ night = .skipped then tells s .notNeeded
        else tells { s with pressure := s.pressure.modify d (fun x => x.set c (some (min 2000 sent))) }
          (if 2000 < sent then .clamped else if (s.pressure.get d).get c = none then .filed else .replaced)

/-! ## Requests of the District Table -/

/-- CONFIGURE DISTRICT (R63, R66, R67): RANGE for a parameter outside its range or M above WLEN, BUSY, LOCKED; else all eleven parameters are
replaced, an excess count above the new N_confirm falls to it, and CONFIG_CHANGED is raised for the other stations; a district above 31: RANGE. -/
def Obligations.ConfigureDistrictReplacesTheParameters : Prop :=
  ∀ (s : State) (p : Position) (r : StationRole) (d : District) (b p1 p0 a1 a0 r1 r0 n m t1 t0 tr bf nc gl sb : Byte),
    s.Asks p r → (r = .telemetry ∨ r = .service) →
      let body := [b, p1, p0, a1, a0, r1, r0, n, m, t1, t0, tr, bf, nc, gl, sb]
      let ps : Params :=
        { properties := p1.toNat * 256 + p0.toNat, allowance := a1.toNat * 256 + a0.toNat, pRef := r1.toNat * 256 + r0.toNat
          n1 := if n = 0 then .none else if n = 1 then .half else if n = 2 then .one else .oneHalf
          m := m.toNat, tAbs := t1.toNat * 256 + t0.toNat, tRel := tr.toNat, burst := bf.toNat, nConfirm := nc.toNat
          gapLimit := gl.toNat, subLim := sb.toNat }
      (31 < b.toNat → exec (.configureDistrict body) s = .next (s.refusal .configureDistrict body .range)) ∧
      (b.toNat = d.1 → exec (.configureDistrict body) s = .next
        (if 3 < n.toNat ∨ ¬ ParamsInRange s.nck.wlen ps then s.refusal .configureDistrict body .range
         else s.unlessGuarded p d .configureDistrict body
           (State.answered
             (((s.modDistrict d (fun x => { x with params := ps })).modWatch d
               (fun w => { w with excess := if ps.nConfirm < w.excess then ps.nConfirm else w.excess })).configChanged p)
             .configureDistrict body .ok [])))

/-- SET SERVICE (R68 to R70, R85): OK with no effect in the state asked for, BUSY, LOCKED. OUT: the district leaves the queue, is IDLE and out of
service, its hold ends, its watch is OUT with counts 0 and alert NONE, it is pending nowhere, and the night ends if it was the last to be closed. IN: in
service, SKIPPED in a night and IDLE outside one, QUIET with a baseline and LEARNING without. CONFIG_CHANGED is raised for the other stations. A
flag raised again leaves a noted clearing (R169). -/
def Obligations.SetServiceTakesOutAndPutsIn : Prop :=
  ∀ (s : State) (p : Position) (r : StationRole) (d : District) (b : Byte),
    s.Asks p r → (r = .telemetry ∨ r = .service) → b.toNat = d.1 → NoticeLaw s →
      let ends := (s.nck.phase = .settling ∨ s.nck.phase = .closing) ∧ ∀ e : District, e ≠ d → ¬ s.Unclosed e
      (if (s.district d).inService = false then exec (.setServiceOut b) s = .next (s.answered .setService [b, 0] .ok [])
       else if s.IsEvaluating d then exec (.setServiceOut b) s = .next (s.refusal .setService [b, 0] .busy)
       else if s.HeldByOther p d then exec (.setServiceOut b) s = .next (s.refusal .setService [b, 0] .locked)
       else ∃ t, exec (.setServiceOut b) s = .next t ∧
         t = State.answered
           { s with
             nck.phase := if ends then .daytime else s.nck.phase
             districts := t.districts, queue := s.queue.filter (fun e => decide (e.district ≠ d))
             choiceDue := s.choiceDue || ((s.district d).hold.isSome && s.flight.isNone)
             watches := t.watches, stations := t.stations
             rqh.notice := if (s.watch d).alert = .none then s.rqh.notice else s.rqh.notice.filter (fun x => decide (x.district ≠ d))
             rqh.events := s.noteAfterRaising (fun q =>
               (if ends then 0x02#5 else 0#5) ||| (if q ≠ p then 0x10#5 else 0#5)) } .setService [b, 0] .ok [] ∧
         (∀ e : District, t.district e =
           if e = d then { s.district d with inService := false, nightState := .idle, hold := none } else s.district e) ∧
         (∀ e : District, t.watch e = if e = d then { state := .out, excess := 0, gap := 0, alert := .none } else s.watch e) ∧
         (∀ q : Position, t.station q = { s.station q with
           pendingSet := (t.station q).pendingSet
           flags := if (s.station q).role = none then (s.station q).flags
                    else (s.station q).flags ||| (if ends then 0x02#5 else 0#5) ||| (if q ≠ p then 0x10#5 else 0#5) }) ∧
         (∀ q : Position, ∀ e : District, (t.station q).pendingSet.has e = ((s.station q).pendingSet.has e && decide (e ≠ d)))) ∧
      exec (.setServiceIn b) s = .next
        (if (s.district d).inService = true then s.answered .setService [b, 1] .ok []
         else s.unlessGuarded p d .setService [b, 1]
           (State.answered
             (((s.modDistrict d (fun x => { x with inService := true, nightState := if s.nightInProgress then .skipped else .idle })).modWatch d
               (fun _ => { state := if (s.baseline d).b = none then .learning else .quiet, excess := 0, gap := 0, alert := .none })).configChanged
                 p) .setService [b, 1] .ok []))

/-! ## Requests of the Baseline Store and of the Leak Watch -/

/-- SET BASELINE MODE, LOAD RING and CLEAR RING (R128 to R133): RANGE, BUSY, LOCKED; else the settings, or the ring, are replaced, CONFIG_CHANGED is
raised for the other stations and the watch is re-judged by whether the baseline is present. -/
def Obligations.BaselineRequestsRejudgeTheWatch : Prop :=
  ∀ (s : State) (p : Position) (r : StationRole) (d : District) (b mode k f2 f1 f0 : Byte) (ring : List RingEntry),
    s.Asks p r → (r = .telemetry ∨ r = .service) → b.toNat = d.1 → ring.length ≤ 9 →
    (∀ e ∈ ring, e.nightDay ≤ 65535 ∧ -2147483648 ≤ e.figure ∧ e.figure ≤ 2147483647) →
      let rejudged := fun bl : Baseline => State.configChanged
        ((s.modBaseline d (fun _ => bl)).modWatch d (fun w =>
          if (w.state = .quiet ∨ w.state = .watch) ∧ bl.b = none then { w with state := .learning, excess := 0 }
          else if w.state = .learning ∧ bl.b ≠ none then { w with state := .quiet }
          else w)) p
      let settings := [b, mode, k, f2, f1, f0]
      let load := b :: byte ring.length :: ring.flatMap (fun e => be16 e.nightDay ++ beSigned32 e.figure)
      exec (.setBaselineMode settings) s = .next
        (if 1 < mode.toNat ∨ k.toNat < 1 ∨ 4 < k.toNat then s.refusal .setBaselineMode settings .range
         else s.unlessGuarded p d .setBaselineMode settings
           (State.answered
             (rejudged { s.baseline d with
               mode := if mode = 0 then .learned else .fixed, rank := k.toNat, fixed := (f2.toNat * 256 + f1.toNat) * 256 + f0.toNat })
             .setBaselineMode settings .ok [])) ∧
      exec (.loadRing load) s = .next
        (if 8 < ring.length ∨ ¬ (ring.map (·.nightDay)).Pairwise (· < ·) ∨
            (∃ e ∈ ring, s.nck.nightDay.any (fun n => decide (n < e.nightDay)) = true) then s.refusal .loadRing load .range
         else s.unlessGuarded p d .loadRing load
           (State.answered (rejudged { s.baseline d with ring := ring }) .loadRing load .ok [])) ∧
      exec (.clearRing [b]) s = .next
        (s.unlessGuarded p d .clearRing [b] (State.answered (rejudged { s.baseline d with ring := [] }) .clearRing [b] .ok []))

/-- ACKNOWLEDGE (R150, R151, R165): LOCKED, STATE; an ALERTED watch becomes ACKNOWLEDGED and its district is pending nowhere; a DATA_LOSS alert becomes
NONE. MARK REPAIRED (R152, R153, R164, R142): LOCKED, STATE; QUIET or LEARNING, excess count 0, alert CLEARED for the stations whose masks take it, and
NONE if no station holds it pending. Each answers with the watch as it leaves it. -/
def Obligations.AcknowledgeAndMarkRepaired : Prop :=
  ∀ (s : State) (p : Position) (r : StationRole) (d : District) (b : Byte),
    s.Asks p r → (r = .telemetry ∨ r = .service) → b.toNat = d.1 → NoticeLaw s →
    WatchConsistent (s.district d).params.nConfirm (s.watch d) →
      let w := s.watch d
      let tells := fun x : Watch => [x.state.code, byte x.excess, x.alert.code]
      (if s.HeldByOther p d then exec (.acknowledge [b]) s = .next (s.refusal .acknowledge [b] .locked)
       else if w.state ≠ .alerted ∧ w.alert ≠ .dataLoss then exec (.acknowledge [b]) s = .next (s.refusal .acknowledge [b] .state)
       else ∃ t, exec (.acknowledge [b]) s = .next t ∧
         t = State.answered
           { s.modWatch d (fun _ => if w.state = .alerted then { w with state := .acknowledged } else { w with alert := .none }) with
             stations := t.stations
             rqh.notice := if w.state = .alerted then s.rqh.notice else s.rqh.notice.filter (fun x => decide (x.district ≠ d)) }
           .acknowledge [b] .ok (tells (t.watch d)) ∧
         (∀ q : Position, t.station q = { s.station q with pendingSet := (t.station q).pendingSet }) ∧
         (∀ q : Position, ∀ e : District, (t.station q).pendingSet.has e = ((s.station q).pendingSet.has e && decide (e ≠ d)))) ∧
      (if s.HeldByOther p d then exec (.markRepaired [b]) s = .next (s.refusal .markRepaired [b] .locked)
       else if w.state ≠ .alerted ∧ w.state ≠ .acknowledged then exec (.markRepaired [b]) s = .next (s.refusal .markRepaired [b] .state)
       else
         let gains := fun q : Position => decide ((s.station q).role ≠ none) && (s.station q).subscription.has d && (s.station q).kindMask.getLsbD 3
         ∃ t, exec (.markRepaired [b]) s = .next t ∧
         t = State.answered
           { s.modWatch d (fun _ =>
               { state := if (s.baseline d).b = none then .learning else .quiet, excess := 0, gap := w.gap
                 alert := if ∃ q : Position, gains q = true then .cleared else .none }) with
             stations := t.stations, rqh.notice := s.rqh.notice.filter (fun x => decide (x.district ≠ d)) }
           .markRepaired [b] .ok (tells (t.watch d)) ∧
         (∀ q : Position, t.station q = { s.station q with pendingSet := (t.station q).pendingSet }) ∧
         (∀ q : Position, ∀ e : District, (t.station q).pendingSet.has e = if e = d then gains q else (s.station q).pendingSet.has e))

/-! ## Requests of the Station Table -/

/-- SET STATION (R161, R162, R77, R142): RANGE for a position, role, mask or address it may not write; else the entry is replaced, or vacated, its flags
are cleared, its holds end if it is vacated or its address or role changes, its pending set is rebuilt, and a CLEARED alert that no position then
holds pending is NONE, which cancels a noted removal of its district (R167). The masks of a vacating request are checked too (DESIGN CHOICE, log 11); the Evaluation Unit is prompted only
if a hold ended (log 17). -/
def Obligations.SetStationRewritesTheEntry : Prop :=
  ∀ (s : State) (p q : Position) (b a role s3 s2 s1 s0 k e : Byte),
    s.Asks p .telemetry → (b.toNat = q.1 ∨ 3 < b.toNat) →
      let body := [b, a, role, s3, s2, s1, s0, k, e]
      let new : Station :=
        if role = 0 then
          { address := 0#4, role := none, subscription := 0#32, kindMask := 0#4, eventMask := 0#5, pendingSet := 0#32, flags := 0#5 }
        else
          { address := BitVec.ofNat 4 a.toNat, role := if role = 2 then some .gateway else if role = 3 then some .pressure else some .service
            subscription := s3 ++ s2 ++ s1 ++ s0, kindMask := BitVec.ofNat 4 k.toNat, eventMask := BitVec.ofNat 5 e.toNat
            pendingSet := 0#32, flags := 0#5 }
      let ends := (s.station q).address ≠ new.address ∨ (s.station q).role ≠ new.role ∨ new.role = none
      let rebuilt := fun (x : Position) (d : District) =>
        if x = q then new.subscription.has d && (s.watch d).alert.inMask new.kindMask else (s.station x).pendingSet.has d
      if b.toNat = 0 ∨ 3 < b.toNat ∨ 4 < role.toNat ∨ role.toNat = 1 ∨ 15 < k.toNat ∨ 31 < e.toNat ∨
          (role ≠ 0 ∧ (a.toNat = 0 ∨ 15 < a.toNat ∨
            ∃ x : Position, x ≠ q ∧ (s.station x).role ≠ none ∧ (s.station x).address.toNat = a.toNat)) then
        exec (.setStation body) s = .next (s.refusal .setStation body .range)
      else ∃ t, exec (.setStation body) s = .next t ∧
        t = State.answered
          { s with
            districts := t.districts
            choiceDue := s.choiceDue ||
              decide (ends ∧ s.flight = none ∧ ∃ d : District, (s.district d).hold.map (·.holder) = some q)
            watches := t.watches, stations := t.stations
            rqh.notice := s.rqh.notice.filter (fun x =>
              decide (¬ ((s.watch x.district).alert = .cleared ∧ ∀ y : Position, rebuilt y x.district = false))) } .setStation body .ok [] ∧
        (∀ d : District, t.district d =
          if ends ∧ (s.district d).hold.map (·.holder) = some q then { s.district d with hold := none } else s.district d) ∧
        (∀ d : District, t.watch d =
          if (s.watch d).alert = .cleared ∧ ∀ x : Position, rebuilt x d = false then { s.watch d with alert := .none } else s.watch d) ∧
        (∀ x : Position, t.station x =
          { (if x = q then new else s.station x) with pendingSet := (t.station x).pendingSet }) ∧
        (∀ x : Position, ∀ d : District, (t.station x).pendingSet.has d = rebuilt x d)

/-- TAKE NOTICE (R166, R197): NONE_PENDING from an empty set; else the district of the highest kind, lowest index first, is noted with its figures in the
answer, and nothing is removed. READ EVENTS (R169) reports flags and mask and notes the flags. SET EVENT MASK (R163) writes the requester's own mask.
CONFIG_CHANGED reaches every occupied position but the requester's (R168). -/
def Obligations.NoticesAndEventsAreRead : Prop :=
  ∀ (s : State) (p : Position) (r : StationRole) (d : District) (m : Byte),
    s.Asks p r → NoticeLaw s →
      let x := (s.district d).result
      let g := x.bind (·.figures)
      let c := g.bind (·.compared)
      ((s.station p).pendingSet = 0#32 → exec (.takeNotice []) s = .next (s.refusal .takeNotice [] .nonePending)) ∧
      ((s.station p).pendingSet.has d = true →
        (∀ e : District, (s.station p).pendingSet.has e = true →
          (s.watch e).alert.urgency < (s.watch d).alert.urgency ∨ ((s.watch e).alert.urgency = (s.watch d).alert.urgency ∧ d ≤ e)) →
        exec (.takeNotice []) s = .next
          (State.answered { s with rqh.notice := some ⟨p, d⟩ } .takeNotice [] .ok
            ([byte d.1, (s.watch d).alert.code, (s.watch d).state.code, byte (s.watch d).excess,
              (if x.isSome then 1#8 else 0#8) ||| (if g.isSome then 2#8 else 0#8) ||| (if c.isSome then 12#8 else 0#8)] ++
             be16 ((x.map (·.nightDay)).getD 0) ++ beSigned32 ((g.map (·.c)).getD 0) ++ beSigned32 ((c.map (·.b)).getD 0) ++
             beSigned32 ((c.map (·.x)).getD 0)))) ∧
      exec (.readEvents []) s = .next
        (State.answered { s with rqh.events := some ⟨p, (s.station p).flags⟩ } .readEvents [] .ok
          [0#3 ++ (s.station p).flags, 0#3 ++ (s.station p).eventMask]) ∧
      exec (.setEventMask [m]) s = .next
        (if 31 < m.toNat then s.refusal .setEventMask [m] .range
         else (s.modStation p (fun y => { y with eventMask := m.setWidth 5 })).answered .setEventMask [m] .ok []) ∧
      (∀ q : Position, (s.configChanged p).station q =
        if q ≠ p ∧ (s.station q).role ≠ none then { s.station q with flags := (s.station q).flags ||| 0x10#5 } else s.station q) ∧
      s.configChanged p =
        { s with
          stations := (s.configChanged p).stations
          rqh.events := s.rqh.events.map (fun n =>
            if n.position ≠ p ∧ (s.station n.position).role ≠ none then { n with flags := n.flags &&& 0x0F#5 } else n) }

/-- CLEAR COUNTERS (R173): all nine counters are 0 at execution and stay so if the answer is abandoned; a handshake timeout of its own answer is
counted after the clearing, so that counter then reads 1; every role but TELEMETRY is refused ROLE, with the counters as they stand. -/
def Obligations.ClearCountersZeroesAllNine : Prop :=
  ∀ (s : State) (p : Position) (r : StationRole),
    s.Asks p r →
      (r ≠ .telemetry → exec (.clearCounters []) s = .next (s.refusal .clearCounters [] .role) ∧
        (s.refusal .clearCounters [] .role).counters = s.counters) ∧
      (r = .telemetry → ∃ t : State, exec (.clearCounters []) s = .next t ∧
        t = State.answered { s with counters := ⟨0, 0, 0, 0, 0, 0, 0, 0, 0⟩ } .clearCounters [] .ok [] ∧
        (t.after [.breakEndsGrant]).counters = ⟨0, 0, 0, 0, 0, 0, 0, 0, 0⟩ ∧
        (t.after [.handshakeTimeout]).counters = ⟨0, 0, 0, 0, 1, 0, 0, 0, 0⟩)

/-- The reads (R37, R36, R80, R81, R84, R134, R157, R172; layouts R196, R198) change nothing but the link, whatever the role, and answer OK with the state
as it stands at execution. -/
def Obligations.ReadsReportTheState : Prop :=
  ∀ (s : State) (p : Position) (r : StationRole) (d : District) (i : SlotIndex) (b y : Byte),
    s.Asks p r → b.toNat = d.1 → y.toNat = i.1 →
      let x := s.slot i
      let v := s.district d
      let bl := s.baseline d
      let w := s.watch d
      let stateOf := fun c : Cell => match c.state with
        | .empty => 0
        | .good => 4194304
        | .estimated => 8388608
      let minutes := fun t : ClockTime => t.day * 1440 + t.minute
      exec (.readMeter [y]) s = .next (s.answered .readMeter [y] .ok
        (be32 x.identifier ++ [(if x.enabled then 1#8 else 0#8) ||| (if x.protect then 2#8 else 0#8), linkByte x.primary, linkByte x.secondary] ++
         be24 ((x.heldMean.map (· + 8388608)).getD 0) ++ [byte x.duplicates, byte x.conflicts] ++
         x.cells.1.flatMap (fun c => be24 (stateOf c + c.volume)))) ∧
      exec (.readStrayList []) s = .next (s.answered .readStrayList [] .ok
        (byte s.strays.length :: s.strays.flatMap (fun z => be32 z.identifier ++ [byte z.count] ++ be16 z.day))) ∧
      exec (.readDistrict [b]) s = .next (s.answered .readDistrict [b] .ok
        (v.params.bytes ++
         [((v.hold.map (fun h => (s.station h.holder).address)).getD 0#4) ++ 0#1 ++ BitVec.ofBool v.heldPressure.isSome ++
            BitVec.ofBool v.hold.isSome ++ BitVec.ofBool v.inService, v.nightState.code] ++
         be16 ((v.hold.map (fun h => min 65535 (minutes h.expiry - minutes s.nck.clock))).getD 0) ++ be16 (v.heldPressure.getD 0))) ∧
      exec (.readResult [b]) s = .next (s.answered .readResult [b] .ok
        (match v.result with
         | none => [0#8]
         | some z =>
           let g := z.figures
           let c := g.bind (·.compared)
           let flag := fun (on : Bool) (k : Byte) => if on then k else 0#8
           1#8 :: (be16 z.nightDay ++
           [z.status.code, reasonCode z.reason,
            flag z.flags.uncorrected 1 ||| flag z.flags.pressureHeld 2 ||| flag z.flags.pressureClamped 4 ||| flag z.flags.figureClamped 8,
            flag g.isSome 1 ||| flag (g.bind (·.pUsed)).isSome 2 ||| flag c.isSome 4] ++
           be16 z.slotsUsed ++ be16 z.cellsSubstituted ++ beSigned32 ((g.map (·.nf)).getD 0) ++ [byte ((g.map (·.minInterval)).getD 0)] ++
           be16 ((g.bind (·.pUsed)).getD 0) ++ be32 ((g.map (·.f)).getD 0) ++ beSigned32 ((g.map (·.c)).getD 0) ++
           beSigned32 ((c.map (·.b)).getD 0) ++ beSigned32 ((c.map (·.t)).getD 0) ++ beSigned32 ((c.map (·.x)).getD 0) ++ [z.verdict.code]))) ∧
      exec (.readQueue []) s = .next (s.answered .readQueue [] .ok
        (((s.flight.map (fun f => byte (128 + f.district.1))).getD 0#8) :: byte s.queue.length ::
          s.queue.map (fun e => (if (s.district e.district).hold = none then 0#8 else 64#8) |||
            (if e.reason = .grace then 32#8 else 0#8) ||| byte e.district.1))) ∧
      exec (.readRing [b]) s = .next (s.answered .readRing [b] .ok
        ([bl.mode.code, byte bl.rank] ++ be24 bl.fixed ++ [if bl.b = none then 0#8 else 1#8] ++ beSigned32 (bl.b.getD 0) ++
         byte bl.ring.length :: bl.ring.flatMap (fun e => be16 e.nightDay ++ beSigned32 e.figure))) ∧
      exec (.readWatch [b]) s = .next (s.answered .readWatch [b] .ok
        [w.state.code, byte w.excess, byte v.params.nConfirm, byte w.gap, byte v.params.gapLimit, w.alert.code,
         0#4 ++ BitVec.ofBool ((s.station 3).pendingSet.has d) ++ BitVec.ofBool ((s.station 2).pendingSet.has d) ++
           BitVec.ofBool ((s.station 1).pendingSet.has d) ++ BitVec.ofBool ((s.station 0).pendingSet.has d)]) ∧
      exec (.readStatus []) s = .next (s.answered .readStatus [] .ok
        ([s.nck.phase.code] ++ be16 s.nck.clock.day ++ be16 s.nck.clock.minute ++
         [(if s.nck.clockSet then 1#8 else 0#8) ||| (if s.nck.nightDay = none then 0#8 else 2#8) ||| (if s.flight = none then 0#8 else 4#8)] ++
         be16 (s.nck.nightDay.getD 0) ++ [byte s.queue.length, (s.flight.map (fun f => byte f.district.1)).getD 0#8] ++
         be16 s.counters.checkErrors ++ be16 s.counters.lengthErrors ++ be16 s.counters.unknownContentions ++
         be16 s.counters.fairnessDiscards ++ be16 s.counters.handshakeTimeouts ++ be16 s.counters.linkBreaks ++
         be16 s.counters.readingsStored ++ be16 s.counters.readingsLate ++ be16 s.counters.unknownMeters))

/-! ## What every step keeps -/

/-- The laws hold after power-on reset with every strap, and at State.reset, which is the reset of the model's board (log 5). -/
def Obligations.ResetMeetsEveryLaw : Prop :=
  ∀ (strap : BitVec 4),
    let u := State.afterReset strap
    ClockLaw u ∧ NightPositionLaw u ∧ DistrictLaw u ∧ QueueLaw u ∧ ResultLaw u ∧ WatchLaw u ∧ NoticeLaw u ∧ StationLaw u ∧ LinkLaw u ∧
    DirectoryLaw u ∧ RingLaw u ∧ PressureLaw u ∧ State.reset = State.afterReset Config.boardStrap

/-- Every step keeps the laws of the night (R1, R4, R5, R64, R76, R79, R82, R83, R85, R87, R88): the clock's ranges and night mark, where the clock stands in
each phase, the agreement of queue, flight and night states, and one result for each night. -/
def Obligations.StepsKeepTheNight : Prop :=
  ∀ (s t : State),
    step s = .next t → ClockLaw s → NightPositionLaw s → QueueLaw s → ResultLaw s →
      ClockLaw t ∧ NightPositionLaw t ∧ QueueLaw t ∧ ResultLaw t

/-- Every step keeps the laws of the watches and the notices (R63, R72, R137, R138, R142, R164). -/
def Obligations.StepsKeepTheWatches : Prop :=
  ∀ (s t : State),
    step s = .next t → ClockLaw s → DistrictLaw s → QueueLaw s → WatchLaw s → NoticeLaw s →
      DistrictLaw t ∧ WatchLaw t ∧ NoticeLaw t

/-- Every step keeps the laws of the Station Table and of the link (R158, R159, R161, R171, R175, R178, R182, R189). -/
def Obligations.StepsKeepTheLink : Prop :=
  ∀ (s t : State),
    step s = .next t → StationLaw s → QueueLaw s → DirectoryLaw s → RingLaw s → LinkLaw s →
      StationLaw t ∧ LinkLaw t

/-- Every step keeps the laws of the Meter Directory, the Reading Grid's values and the Baseline Store (R21, R25, R33, R34, R38, R40, R123, R124).
The night day of a result in flight is in range by ResultLaw and ClockLaw. -/
def Obligations.StepsKeepTheStores : Prop :=
  ∀ (s t : State),
    step s = .next t → ClockLaw s → ResultLaw s → DirectoryLaw s → RingLaw s → PressureLaw s →
      DirectoryLaw t ∧ RingLaw t ∧ PressureLaw t

end
end

