-- ==== Sys2Proof/Laws/Tables.lean ====
section
/-!
SUPPORT. What a table reads after an update.
-/

namespace Sys2Proof

variable {n : Nat} {α β : Type}

@[simp] theorem Table.get_set_self (t : Table n α) (i : Fin n) (a : α) : (t.set i a).get i = a := by
  simp [Table.get, Table.set]

theorem Table.get_set_ne (t : Table n α) {i j : Fin n} (a : α) (h : j ≠ i) : (t.set i a).get j = t.get j := by
  have : i.1 ≠ j.1 := fun e => h (Fin.ext e.symm)
  simp [Table.get, Table.set, List.getElem_set_ne this]

theorem Table.get_set (t : Table n α) (i j : Fin n) (a : α) : (t.set i a).get j = if j = i then a else t.get j := by
  split
  next h => rw [h]; exact t.get_set_self i a
  next h => exact t.get_set_ne a h

@[simp] theorem Table.get_modify_self (t : Table n α) (i : Fin n) (f : α → α) : (t.modify i f).get i = f (t.get i) :=
  t.get_set_self i _

theorem Table.get_modify_ne (t : Table n α) {i j : Fin n} (f : α → α) (h : j ≠ i) : (t.modify i f).get j = t.get j :=
  t.get_set_ne _ h

theorem Table.get_modify (t : Table n α) (i j : Fin n) (f : α → α) :
    (t.modify i f).get j = if j = i then f (t.get i) else t.get j := t.get_set i j _

@[simp] theorem Table.get_map (f : α → β) (t : Table n α) (i : Fin n) : (t.map f).get i = f (t.get i) := by
  simp [Table.get, Table.map]

@[simp] theorem Table.get_replicate (a : α) (i : Fin n) : (Table.replicate n a).get i = a := by
  simp [Table.get, Table.replicate]

/-- Two tables with the same records are equal. -/
theorem Table.ext_get {t u : Table n α} (h : ∀ i, t.get i = u.get i) : t = u := by
  apply Subtype.ext
  apply List.ext_getElem
  · rw [t.2, u.2]
  · intro i h1 _
    exact h ⟨i, by rw [← t.2]; exact h1⟩

/-- A record is in the list of its table. -/
theorem Table.get_mem (t : Table n α) (i : Fin n) : t.get i ∈ t.1 := List.getElem_mem _

/-- What is in a table's list is a record of it. -/
theorem Table.mem_iff (t : Table n α) (a : α) : a ∈ t.1 ↔ ∃ i, t.get i = a := by
  constructor
  · intro h
    obtain ⟨k, hk, e⟩ := List.mem_iff_getElem.1 h
    exact ⟨⟨k, by rw [← t.2]; exact hk⟩, e⟩
  · rintro ⟨i, rfl⟩
    exact t.get_mem i

end Sys2Proof
end

