-- ==== Sys2Proof/Laws/State.lean ====
section
/-!
SUPPORT. What each named update of State leaves in each field.
-/

namespace Sys2Proof.Machine

/-! ## Reading a record after its own update -/

theorem State.district_modDistrict (s : State) (d e : District) (f : DistrictRecord → DistrictRecord) :
    (s.modDistrict d f).district e = if e = d then f (s.district d) else s.district e := Table.get_modify _ d e f

@[simp] theorem State.district_modDistrict_self (s : State) (d : District) (f : DistrictRecord → DistrictRecord) : (s.modDistrict d f).district d = f (s.district d) :=
  Table.get_modify_self _ d f

theorem State.district_modDistrict_ne (s : State) {d e : District} (f : DistrictRecord → DistrictRecord) (h : e ≠ d) : (s.modDistrict d f).district e = s.district e :=
  Table.get_modify_ne _ f h

theorem State.watch_modWatch (s : State) (d e : District) (f : Watch → Watch) :
    (s.modWatch d f).watch e = if e = d then f (s.watch d) else s.watch e := Table.get_modify _ d e f

@[simp] theorem State.watch_modWatch_self (s : State) (d : District) (f : Watch → Watch) : (s.modWatch d f).watch d = f (s.watch d) :=
  Table.get_modify_self _ d f

theorem State.watch_modWatch_ne (s : State) {d e : District} (f : Watch → Watch) (h : e ≠ d) : (s.modWatch d f).watch e = s.watch e :=
  Table.get_modify_ne _ f h

theorem State.baseline_modBaseline (s : State) (d e : District) (f : Baseline → Baseline) :
    (s.modBaseline d f).baseline e = if e = d then f (s.baseline d) else s.baseline e := Table.get_modify _ d e f

@[simp] theorem State.baseline_modBaseline_self (s : State) (d : District) (f : Baseline → Baseline) : (s.modBaseline d f).baseline d = f (s.baseline d) :=
  Table.get_modify_self _ d f

theorem State.baseline_modBaseline_ne (s : State) {d e : District} (f : Baseline → Baseline) (h : e ≠ d) : (s.modBaseline d f).baseline e = s.baseline e :=
  Table.get_modify_ne _ f h

theorem State.station_modStation (s : State) (d e : Position) (f : Station → Station) :
    (s.modStation d f).station e = if e = d then f (s.station d) else s.station e := Table.get_modify _ d e f

@[simp] theorem State.station_modStation_self (s : State) (d : Position) (f : Station → Station) : (s.modStation d f).station d = f (s.station d) :=
  Table.get_modify_self _ d f

theorem State.station_modStation_ne (s : State) {d e : Position} (f : Station → Station) (h : e ≠ d) : (s.modStation d f).station e = s.station e :=
  Table.get_modify_ne _ f h

theorem State.slot_modSlot (s : State) (d e : SlotIndex) (f : Slot → Slot) :
    (s.modSlot d f).slot e = if e = d then f (s.slot d) else s.slot e := Table.get_modify _ d e f

@[simp] theorem State.slot_modSlot_self (s : State) (d : SlotIndex) (f : Slot → Slot) : (s.modSlot d f).slot d = f (s.slot d) :=
  Table.get_modify_self _ d f

theorem State.slot_modSlot_ne (s : State) {d e : SlotIndex} (f : Slot → Slot) (h : e ≠ d) : (s.modSlot d f).slot e = s.slot e :=
  Table.get_modify_ne _ f h

/-! ## Fields an update leaves -/

@[simp] theorem State.modDistrict_running (s : State) (d : District) (f : DistrictRecord → DistrictRecord) : (s.modDistrict d f).running = s.running := rfl
@[simp] theorem State.modDistrict_nck (s : State) (d : District) (f : DistrictRecord → DistrictRecord) : (s.modDistrict d f).nck = s.nck := rfl
@[simp] theorem State.modDistrict_slots (s : State) (d : District) (f : DistrictRecord → DistrictRecord) : (s.modDistrict d f).slots = s.slots := rfl
@[simp] theorem State.modDistrict_strays (s : State) (d : District) (f : DistrictRecord → DistrictRecord) : (s.modDistrict d f).strays = s.strays := rfl
@[simp] theorem State.modDistrict_pressure (s : State) (d : District) (f : DistrictRecord → DistrictRecord) : (s.modDistrict d f).pressure = s.pressure := rfl
@[simp] theorem State.modDistrict_queue (s : State) (d : District) (f : DistrictRecord → DistrictRecord) : (s.modDistrict d f).queue = s.queue := rfl
@[simp] theorem State.modDistrict_flight (s : State) (d : District) (f : DistrictRecord → DistrictRecord) : (s.modDistrict d f).flight = s.flight := rfl
@[simp] theorem State.modDistrict_choiceDue (s : State) (d : District) (f : DistrictRecord → DistrictRecord) : (s.modDistrict d f).choiceDue = s.choiceDue := rfl
@[simp] theorem State.modDistrict_baselines (s : State) (d : District) (f : DistrictRecord → DistrictRecord) : (s.modDistrict d f).baselines = s.baselines := rfl
@[simp] theorem State.modDistrict_watches (s : State) (d : District) (f : DistrictRecord → DistrictRecord) : (s.modDistrict d f).watches = s.watches := rfl
@[simp] theorem State.modDistrict_stations (s : State) (d : District) (f : DistrictRecord → DistrictRecord) : (s.modDistrict d f).stations = s.stations := rfl
@[simp] theorem State.modDistrict_link (s : State) (d : District) (f : DistrictRecord → DistrictRecord) : (s.modDistrict d f).link = s.link := rfl
@[simp] theorem State.modDistrict_rqh (s : State) (d : District) (f : DistrictRecord → DistrictRecord) : (s.modDistrict d f).rqh = s.rqh := rfl
@[simp] theorem State.modDistrict_counters (s : State) (d : District) (f : DistrictRecord → DistrictRecord) : (s.modDistrict d f).counters = s.counters := rfl
@[simp] theorem State.modDistrict_pending (s : State) (d : District) (f : DistrictRecord → DistrictRecord) : (s.modDistrict d f).pending = s.pending := rfl
@[simp] theorem State.modDistrict_freeCount (s : State) (d : District) (f : DistrictRecord → DistrictRecord) : (s.modDistrict d f).freeCount = s.freeCount := rfl
@[simp] theorem State.modDistrict_watch (s : State) (d : District) (f : DistrictRecord → DistrictRecord) (e : District) : (s.modDistrict d f).watch e = s.watch e := rfl
@[simp] theorem State.modDistrict_baseline (s : State) (d : District) (f : DistrictRecord → DistrictRecord) (e : District) : (s.modDistrict d f).baseline e = s.baseline e := rfl
@[simp] theorem State.modDistrict_station (s : State) (d : District) (f : DistrictRecord → DistrictRecord) (q : Position) : (s.modDistrict d f).station q = s.station q := rfl
@[simp] theorem State.modDistrict_slot (s : State) (d : District) (f : DistrictRecord → DistrictRecord) (j : SlotIndex) : (s.modDistrict d f).slot j = s.slot j := rfl

@[simp] theorem State.modWatch_running (s : State) (d : District) (f : Watch → Watch) : (s.modWatch d f).running = s.running := rfl
@[simp] theorem State.modWatch_nck (s : State) (d : District) (f : Watch → Watch) : (s.modWatch d f).nck = s.nck := rfl
@[simp] theorem State.modWatch_slots (s : State) (d : District) (f : Watch → Watch) : (s.modWatch d f).slots = s.slots := rfl
@[simp] theorem State.modWatch_strays (s : State) (d : District) (f : Watch → Watch) : (s.modWatch d f).strays = s.strays := rfl
@[simp] theorem State.modWatch_pressure (s : State) (d : District) (f : Watch → Watch) : (s.modWatch d f).pressure = s.pressure := rfl
@[simp] theorem State.modWatch_districts (s : State) (d : District) (f : Watch → Watch) : (s.modWatch d f).districts = s.districts := rfl
@[simp] theorem State.modWatch_queue (s : State) (d : District) (f : Watch → Watch) : (s.modWatch d f).queue = s.queue := rfl
@[simp] theorem State.modWatch_flight (s : State) (d : District) (f : Watch → Watch) : (s.modWatch d f).flight = s.flight := rfl
@[simp] theorem State.modWatch_choiceDue (s : State) (d : District) (f : Watch → Watch) : (s.modWatch d f).choiceDue = s.choiceDue := rfl
@[simp] theorem State.modWatch_baselines (s : State) (d : District) (f : Watch → Watch) : (s.modWatch d f).baselines = s.baselines := rfl
@[simp] theorem State.modWatch_stations (s : State) (d : District) (f : Watch → Watch) : (s.modWatch d f).stations = s.stations := rfl
@[simp] theorem State.modWatch_link (s : State) (d : District) (f : Watch → Watch) : (s.modWatch d f).link = s.link := rfl
@[simp] theorem State.modWatch_rqh (s : State) (d : District) (f : Watch → Watch) : (s.modWatch d f).rqh = s.rqh := rfl
@[simp] theorem State.modWatch_counters (s : State) (d : District) (f : Watch → Watch) : (s.modWatch d f).counters = s.counters := rfl
@[simp] theorem State.modWatch_pending (s : State) (d : District) (f : Watch → Watch) : (s.modWatch d f).pending = s.pending := rfl
@[simp] theorem State.modWatch_freeCount (s : State) (d : District) (f : Watch → Watch) : (s.modWatch d f).freeCount = s.freeCount := rfl
@[simp] theorem State.modWatch_district (s : State) (d : District) (f : Watch → Watch) (e : District) : (s.modWatch d f).district e = s.district e := rfl
@[simp] theorem State.modWatch_baseline (s : State) (d : District) (f : Watch → Watch) (e : District) : (s.modWatch d f).baseline e = s.baseline e := rfl
@[simp] theorem State.modWatch_station (s : State) (d : District) (f : Watch → Watch) (q : Position) : (s.modWatch d f).station q = s.station q := rfl
@[simp] theorem State.modWatch_slot (s : State) (d : District) (f : Watch → Watch) (j : SlotIndex) : (s.modWatch d f).slot j = s.slot j := rfl

@[simp] theorem State.modBaseline_running (s : State) (d : District) (f : Baseline → Baseline) : (s.modBaseline d f).running = s.running := rfl
@[simp] theorem State.modBaseline_nck (s : State) (d : District) (f : Baseline → Baseline) : (s.modBaseline d f).nck = s.nck := rfl
@[simp] theorem State.modBaseline_slots (s : State) (d : District) (f : Baseline → Baseline) : (s.modBaseline d f).slots = s.slots := rfl
@[simp] theorem State.modBaseline_strays (s : State) (d : District) (f : Baseline → Baseline) : (s.modBaseline d f).strays = s.strays := rfl
@[simp] theorem State.modBaseline_pressure (s : State) (d : District) (f : Baseline → Baseline) : (s.modBaseline d f).pressure = s.pressure := rfl
@[simp] theorem State.modBaseline_districts (s : State) (d : District) (f : Baseline → Baseline) : (s.modBaseline d f).districts = s.districts := rfl
@[simp] theorem State.modBaseline_queue (s : State) (d : District) (f : Baseline → Baseline) : (s.modBaseline d f).queue = s.queue := rfl
@[simp] theorem State.modBaseline_flight (s : State) (d : District) (f : Baseline → Baseline) : (s.modBaseline d f).flight = s.flight := rfl
@[simp] theorem State.modBaseline_choiceDue (s : State) (d : District) (f : Baseline → Baseline) : (s.modBaseline d f).choiceDue = s.choiceDue := rfl
@[simp] theorem State.modBaseline_watches (s : State) (d : District) (f : Baseline → Baseline) : (s.modBaseline d f).watches = s.watches := rfl
@[simp] theorem State.modBaseline_stations (s : State) (d : District) (f : Baseline → Baseline) : (s.modBaseline d f).stations = s.stations := rfl
@[simp] theorem State.modBaseline_link (s : State) (d : District) (f : Baseline → Baseline) : (s.modBaseline d f).link = s.link := rfl
@[simp] theorem State.modBaseline_rqh (s : State) (d : District) (f : Baseline → Baseline) : (s.modBaseline d f).rqh = s.rqh := rfl
@[simp] theorem State.modBaseline_counters (s : State) (d : District) (f : Baseline → Baseline) : (s.modBaseline d f).counters = s.counters := rfl
@[simp] theorem State.modBaseline_pending (s : State) (d : District) (f : Baseline → Baseline) : (s.modBaseline d f).pending = s.pending := rfl
@[simp] theorem State.modBaseline_freeCount (s : State) (d : District) (f : Baseline → Baseline) : (s.modBaseline d f).freeCount = s.freeCount := rfl
@[simp] theorem State.modBaseline_district (s : State) (d : District) (f : Baseline → Baseline) (e : District) : (s.modBaseline d f).district e = s.district e := rfl
@[simp] theorem State.modBaseline_watch (s : State) (d : District) (f : Baseline → Baseline) (e : District) : (s.modBaseline d f).watch e = s.watch e := rfl
@[simp] theorem State.modBaseline_station (s : State) (d : District) (f : Baseline → Baseline) (q : Position) : (s.modBaseline d f).station q = s.station q := rfl
@[simp] theorem State.modBaseline_slot (s : State) (d : District) (f : Baseline → Baseline) (j : SlotIndex) : (s.modBaseline d f).slot j = s.slot j := rfl

@[simp] theorem State.modStation_running (s : State) (p : Position) (f : Station → Station) : (s.modStation p f).running = s.running := rfl
@[simp] theorem State.modStation_nck (s : State) (p : Position) (f : Station → Station) : (s.modStation p f).nck = s.nck := rfl
@[simp] theorem State.modStation_slots (s : State) (p : Position) (f : Station → Station) : (s.modStation p f).slots = s.slots := rfl
@[simp] theorem State.modStation_strays (s : State) (p : Position) (f : Station → Station) : (s.modStation p f).strays = s.strays := rfl
@[simp] theorem State.modStation_pressure (s : State) (p : Position) (f : Station → Station) : (s.modStation p f).pressure = s.pressure := rfl
@[simp] theorem State.modStation_districts (s : State) (p : Position) (f : Station → Station) : (s.modStation p f).districts = s.districts := rfl
@[simp] theorem State.modStation_queue (s : State) (p : Position) (f : Station → Station) : (s.modStation p f).queue = s.queue := rfl
@[simp] theorem State.modStation_flight (s : State) (p : Position) (f : Station → Station) : (s.modStation p f).flight = s.flight := rfl
@[simp] theorem State.modStation_choiceDue (s : State) (p : Position) (f : Station → Station) : (s.modStation p f).choiceDue = s.choiceDue := rfl
@[simp] theorem State.modStation_baselines (s : State) (p : Position) (f : Station → Station) : (s.modStation p f).baselines = s.baselines := rfl
@[simp] theorem State.modStation_watches (s : State) (p : Position) (f : Station → Station) : (s.modStation p f).watches = s.watches := rfl
@[simp] theorem State.modStation_link (s : State) (p : Position) (f : Station → Station) : (s.modStation p f).link = s.link := rfl
@[simp] theorem State.modStation_rqh (s : State) (p : Position) (f : Station → Station) : (s.modStation p f).rqh = s.rqh := rfl
@[simp] theorem State.modStation_counters (s : State) (p : Position) (f : Station → Station) : (s.modStation p f).counters = s.counters := rfl
@[simp] theorem State.modStation_pending (s : State) (p : Position) (f : Station → Station) : (s.modStation p f).pending = s.pending := rfl
@[simp] theorem State.modStation_freeCount (s : State) (p : Position) (f : Station → Station) : (s.modStation p f).freeCount = s.freeCount := rfl
@[simp] theorem State.modStation_district (s : State) (p : Position) (f : Station → Station) (e : District) : (s.modStation p f).district e = s.district e := rfl
@[simp] theorem State.modStation_watch (s : State) (p : Position) (f : Station → Station) (e : District) : (s.modStation p f).watch e = s.watch e := rfl
@[simp] theorem State.modStation_baseline (s : State) (p : Position) (f : Station → Station) (e : District) : (s.modStation p f).baseline e = s.baseline e := rfl
@[simp] theorem State.modStation_slot (s : State) (p : Position) (f : Station → Station) (j : SlotIndex) : (s.modStation p f).slot j = s.slot j := rfl

@[simp] theorem State.modSlot_running (s : State) (i : SlotIndex) (f : Slot → Slot) : (s.modSlot i f).running = s.running := rfl
@[simp] theorem State.modSlot_nck (s : State) (i : SlotIndex) (f : Slot → Slot) : (s.modSlot i f).nck = s.nck := rfl
@[simp] theorem State.modSlot_strays (s : State) (i : SlotIndex) (f : Slot → Slot) : (s.modSlot i f).strays = s.strays := rfl
@[simp] theorem State.modSlot_pressure (s : State) (i : SlotIndex) (f : Slot → Slot) : (s.modSlot i f).pressure = s.pressure := rfl
@[simp] theorem State.modSlot_districts (s : State) (i : SlotIndex) (f : Slot → Slot) : (s.modSlot i f).districts = s.districts := rfl
@[simp] theorem State.modSlot_queue (s : State) (i : SlotIndex) (f : Slot → Slot) : (s.modSlot i f).queue = s.queue := rfl
@[simp] theorem State.modSlot_flight (s : State) (i : SlotIndex) (f : Slot → Slot) : (s.modSlot i f).flight = s.flight := rfl
@[simp] theorem State.modSlot_choiceDue (s : State) (i : SlotIndex) (f : Slot → Slot) : (s.modSlot i f).choiceDue = s.choiceDue := rfl
@[simp] theorem State.modSlot_baselines (s : State) (i : SlotIndex) (f : Slot → Slot) : (s.modSlot i f).baselines = s.baselines := rfl
@[simp] theorem State.modSlot_watches (s : State) (i : SlotIndex) (f : Slot → Slot) : (s.modSlot i f).watches = s.watches := rfl
@[simp] theorem State.modSlot_stations (s : State) (i : SlotIndex) (f : Slot → Slot) : (s.modSlot i f).stations = s.stations := rfl
@[simp] theorem State.modSlot_link (s : State) (i : SlotIndex) (f : Slot → Slot) : (s.modSlot i f).link = s.link := rfl
@[simp] theorem State.modSlot_rqh (s : State) (i : SlotIndex) (f : Slot → Slot) : (s.modSlot i f).rqh = s.rqh := rfl
@[simp] theorem State.modSlot_counters (s : State) (i : SlotIndex) (f : Slot → Slot) : (s.modSlot i f).counters = s.counters := rfl
@[simp] theorem State.modSlot_pending (s : State) (i : SlotIndex) (f : Slot → Slot) : (s.modSlot i f).pending = s.pending := rfl
@[simp] theorem State.modSlot_freeCount (s : State) (i : SlotIndex) (f : Slot → Slot) : (s.modSlot i f).freeCount = s.freeCount := rfl
@[simp] theorem State.modSlot_district (s : State) (i : SlotIndex) (f : Slot → Slot) (e : District) : (s.modSlot i f).district e = s.district e := rfl
@[simp] theorem State.modSlot_watch (s : State) (i : SlotIndex) (f : Slot → Slot) (e : District) : (s.modSlot i f).watch e = s.watch e := rfl
@[simp] theorem State.modSlot_baseline (s : State) (i : SlotIndex) (f : Slot → Slot) (e : District) : (s.modSlot i f).baseline e = s.baseline e := rfl
@[simp] theorem State.modSlot_station (s : State) (i : SlotIndex) (f : Slot → Slot) (q : Position) : (s.modSlot i f).station q = s.station q := rfl

@[simp] theorem State.setNightState_running (s : State) (d : District) (x : NightState) : (s.setNightState d x).running = s.running := rfl
@[simp] theorem State.setNightState_nck (s : State) (d : District) (x : NightState) : (s.setNightState d x).nck = s.nck := rfl
@[simp] theorem State.setNightState_slots (s : State) (d : District) (x : NightState) : (s.setNightState d x).slots = s.slots := rfl
@[simp] theorem State.setNightState_strays (s : State) (d : District) (x : NightState) : (s.setNightState d x).strays = s.strays := rfl
@[simp] theorem State.setNightState_pressure (s : State) (d : District) (x : NightState) : (s.setNightState d x).pressure = s.pressure := rfl
@[simp] theorem State.setNightState_queue (s : State) (d : District) (x : NightState) : (s.setNightState d x).queue = s.queue := rfl
@[simp] theorem State.setNightState_flight (s : State) (d : District) (x : NightState) : (s.setNightState d x).flight = s.flight := rfl
@[simp] theorem State.setNightState_choiceDue (s : State) (d : District) (x : NightState) : (s.setNightState d x).choiceDue = s.choiceDue := rfl
@[simp] theorem State.setNightState_baselines (s : State) (d : District) (x : NightState) : (s.setNightState d x).baselines = s.baselines := rfl
@[simp] theorem State.setNightState_watches (s : State) (d : District) (x : NightState) : (s.setNightState d x).watches = s.watches := rfl
@[simp] theorem State.setNightState_stations (s : State) (d : District) (x : NightState) : (s.setNightState d x).stations = s.stations := rfl
@[simp] theorem State.setNightState_link (s : State) (d : District) (x : NightState) : (s.setNightState d x).link = s.link := rfl
@[simp] theorem State.setNightState_rqh (s : State) (d : District) (x : NightState) : (s.setNightState d x).rqh = s.rqh := rfl
@[simp] theorem State.setNightState_counters (s : State) (d : District) (x : NightState) : (s.setNightState d x).counters = s.counters := rfl
@[simp] theorem State.setNightState_pending (s : State) (d : District) (x : NightState) : (s.setNightState d x).pending = s.pending := rfl
@[simp] theorem State.setNightState_freeCount (s : State) (d : District) (x : NightState) : (s.setNightState d x).freeCount = s.freeCount := rfl
@[simp] theorem State.setNightState_watch (s : State) (d : District) (x : NightState) (e : District) : (s.setNightState d x).watch e = s.watch e := rfl
@[simp] theorem State.setNightState_baseline (s : State) (d : District) (x : NightState) (e : District) : (s.setNightState d x).baseline e = s.baseline e := rfl
@[simp] theorem State.setNightState_station (s : State) (d : District) (x : NightState) (q : Position) : (s.setNightState d x).station q = s.station q := rfl
@[simp] theorem State.setNightState_slot (s : State) (d : District) (x : NightState) (j : SlotIndex) : (s.setNightState d x).slot j = s.slot j := rfl

@[simp] theorem State.publish_running (s : State) (d : District) (r : Result) : (s.publish d r).running = s.running := rfl
@[simp] theorem State.publish_nck (s : State) (d : District) (r : Result) : (s.publish d r).nck = s.nck := rfl
@[simp] theorem State.publish_slots (s : State) (d : District) (r : Result) : (s.publish d r).slots = s.slots := rfl
@[simp] theorem State.publish_strays (s : State) (d : District) (r : Result) : (s.publish d r).strays = s.strays := rfl
@[simp] theorem State.publish_pressure (s : State) (d : District) (r : Result) : (s.publish d r).pressure = s.pressure := rfl
@[simp] theorem State.publish_queue (s : State) (d : District) (r : Result) : (s.publish d r).queue = s.queue := rfl
@[simp] theorem State.publish_flight (s : State) (d : District) (r : Result) : (s.publish d r).flight = s.flight := rfl
@[simp] theorem State.publish_choiceDue (s : State) (d : District) (r : Result) : (s.publish d r).choiceDue = s.choiceDue := rfl
@[simp] theorem State.publish_baselines (s : State) (d : District) (r : Result) : (s.publish d r).baselines = s.baselines := rfl
@[simp] theorem State.publish_watches (s : State) (d : District) (r : Result) : (s.publish d r).watches = s.watches := rfl
@[simp] theorem State.publish_stations (s : State) (d : District) (r : Result) : (s.publish d r).stations = s.stations := rfl
@[simp] theorem State.publish_link (s : State) (d : District) (r : Result) : (s.publish d r).link = s.link := rfl
@[simp] theorem State.publish_rqh (s : State) (d : District) (r : Result) : (s.publish d r).rqh = s.rqh := rfl
@[simp] theorem State.publish_counters (s : State) (d : District) (r : Result) : (s.publish d r).counters = s.counters := rfl
@[simp] theorem State.publish_pending (s : State) (d : District) (r : Result) : (s.publish d r).pending = s.pending := rfl
@[simp] theorem State.publish_freeCount (s : State) (d : District) (r : Result) : (s.publish d r).freeCount = s.freeCount := rfl
@[simp] theorem State.publish_watch (s : State) (d : District) (r : Result) (e : District) : (s.publish d r).watch e = s.watch e := rfl
@[simp] theorem State.publish_baseline (s : State) (d : District) (r : Result) (e : District) : (s.publish d r).baseline e = s.baseline e := rfl
@[simp] theorem State.publish_station (s : State) (d : District) (r : Result) (q : Position) : (s.publish d r).station q = s.station q := rfl
@[simp] theorem State.publish_slot (s : State) (d : District) (r : Result) (j : SlotIndex) : (s.publish d r).slot j = s.slot j := rfl

@[simp] theorem State.removeHold_running (s : State) (d : District) : (s.removeHold d).running = s.running := rfl
@[simp] theorem State.removeHold_nck (s : State) (d : District) : (s.removeHold d).nck = s.nck := rfl
@[simp] theorem State.removeHold_slots (s : State) (d : District) : (s.removeHold d).slots = s.slots := rfl
@[simp] theorem State.removeHold_strays (s : State) (d : District) : (s.removeHold d).strays = s.strays := rfl
@[simp] theorem State.removeHold_pressure (s : State) (d : District) : (s.removeHold d).pressure = s.pressure := rfl
@[simp] theorem State.removeHold_queue (s : State) (d : District) : (s.removeHold d).queue = s.queue := rfl
@[simp] theorem State.removeHold_flight (s : State) (d : District) : (s.removeHold d).flight = s.flight := rfl
@[simp] theorem State.removeHold_choiceDue (s : State) (d : District) : (s.removeHold d).choiceDue = s.choiceDue := rfl
@[simp] theorem State.removeHold_baselines (s : State) (d : District) : (s.removeHold d).baselines = s.baselines := rfl
@[simp] theorem State.removeHold_watches (s : State) (d : District) : (s.removeHold d).watches = s.watches := rfl
@[simp] theorem State.removeHold_stations (s : State) (d : District) : (s.removeHold d).stations = s.stations := rfl
@[simp] theorem State.removeHold_link (s : State) (d : District) : (s.removeHold d).link = s.link := rfl
@[simp] theorem State.removeHold_rqh (s : State) (d : District) : (s.removeHold d).rqh = s.rqh := rfl
@[simp] theorem State.removeHold_counters (s : State) (d : District) : (s.removeHold d).counters = s.counters := rfl
@[simp] theorem State.removeHold_pending (s : State) (d : District) : (s.removeHold d).pending = s.pending := rfl
@[simp] theorem State.removeHold_freeCount (s : State) (d : District) : (s.removeHold d).freeCount = s.freeCount := rfl
@[simp] theorem State.removeHold_watch (s : State) (d : District) (e : District) : (s.removeHold d).watch e = s.watch e := rfl
@[simp] theorem State.removeHold_baseline (s : State) (d : District) (e : District) : (s.removeHold d).baseline e = s.baseline e := rfl
@[simp] theorem State.removeHold_station (s : State) (d : District) (q : Position) : (s.removeHold d).station q = s.station q := rfl
@[simp] theorem State.removeHold_slot (s : State) (d : District) (j : SlotIndex) : (s.removeHold d).slot j = s.slot j := rfl

@[simp] theorem State.setAlert_running (s : State) (d : District) (a : Alert) : (s.setAlert d a).running = s.running := rfl
@[simp] theorem State.setAlert_nck (s : State) (d : District) (a : Alert) : (s.setAlert d a).nck = s.nck := rfl
@[simp] theorem State.setAlert_slots (s : State) (d : District) (a : Alert) : (s.setAlert d a).slots = s.slots := rfl
@[simp] theorem State.setAlert_strays (s : State) (d : District) (a : Alert) : (s.setAlert d a).strays = s.strays := rfl
@[simp] theorem State.setAlert_pressure (s : State) (d : District) (a : Alert) : (s.setAlert d a).pressure = s.pressure := rfl
@[simp] theorem State.setAlert_districts (s : State) (d : District) (a : Alert) : (s.setAlert d a).districts = s.districts := rfl
@[simp] theorem State.setAlert_queue (s : State) (d : District) (a : Alert) : (s.setAlert d a).queue = s.queue := rfl
@[simp] theorem State.setAlert_flight (s : State) (d : District) (a : Alert) : (s.setAlert d a).flight = s.flight := rfl
@[simp] theorem State.setAlert_choiceDue (s : State) (d : District) (a : Alert) : (s.setAlert d a).choiceDue = s.choiceDue := rfl
@[simp] theorem State.setAlert_baselines (s : State) (d : District) (a : Alert) : (s.setAlert d a).baselines = s.baselines := rfl
@[simp] theorem State.setAlert_stations (s : State) (d : District) (a : Alert) : (s.setAlert d a).stations = s.stations := rfl
@[simp] theorem State.setAlert_link (s : State) (d : District) (a : Alert) : (s.setAlert d a).link = s.link := rfl
@[simp] theorem State.setAlert_rqh (s : State) (d : District) (a : Alert) : (s.setAlert d a).rqh = s.rqh := rfl
@[simp] theorem State.setAlert_counters (s : State) (d : District) (a : Alert) : (s.setAlert d a).counters = s.counters := rfl
@[simp] theorem State.setAlert_pending (s : State) (d : District) (a : Alert) : (s.setAlert d a).pending = s.pending := rfl
@[simp] theorem State.setAlert_freeCount (s : State) (d : District) (a : Alert) : (s.setAlert d a).freeCount = s.freeCount := rfl
@[simp] theorem State.setAlert_district (s : State) (d : District) (a : Alert) (e : District) : (s.setAlert d a).district e = s.district e := rfl
@[simp] theorem State.setAlert_baseline (s : State) (d : District) (a : Alert) (e : District) : (s.setAlert d a).baseline e = s.baseline e := rfl
@[simp] theorem State.setAlert_station (s : State) (d : District) (a : Alert) (q : Position) : (s.setAlert d a).station q = s.station q := rfl
@[simp] theorem State.setAlert_slot (s : State) (d : District) (a : Alert) (j : SlotIndex) : (s.setAlert d a).slot j = s.slot j := rfl

@[simp] theorem State.dropPending_running (s : State) (p : Position) (d : District) : (s.dropPending p d).running = s.running := rfl
@[simp] theorem State.dropPending_nck (s : State) (p : Position) (d : District) : (s.dropPending p d).nck = s.nck := rfl
@[simp] theorem State.dropPending_slots (s : State) (p : Position) (d : District) : (s.dropPending p d).slots = s.slots := rfl
@[simp] theorem State.dropPending_strays (s : State) (p : Position) (d : District) : (s.dropPending p d).strays = s.strays := rfl
@[simp] theorem State.dropPending_pressure (s : State) (p : Position) (d : District) : (s.dropPending p d).pressure = s.pressure := rfl
@[simp] theorem State.dropPending_districts (s : State) (p : Position) (d : District) : (s.dropPending p d).districts = s.districts := rfl
@[simp] theorem State.dropPending_queue (s : State) (p : Position) (d : District) : (s.dropPending p d).queue = s.queue := rfl
@[simp] theorem State.dropPending_flight (s : State) (p : Position) (d : District) : (s.dropPending p d).flight = s.flight := rfl
@[simp] theorem State.dropPending_choiceDue (s : State) (p : Position) (d : District) : (s.dropPending p d).choiceDue = s.choiceDue := rfl
@[simp] theorem State.dropPending_baselines (s : State) (p : Position) (d : District) : (s.dropPending p d).baselines = s.baselines := rfl
@[simp] theorem State.dropPending_watches (s : State) (p : Position) (d : District) : (s.dropPending p d).watches = s.watches := rfl
@[simp] theorem State.dropPending_link (s : State) (p : Position) (d : District) : (s.dropPending p d).link = s.link := rfl
@[simp] theorem State.dropPending_rqh (s : State) (p : Position) (d : District) : (s.dropPending p d).rqh = s.rqh := rfl
@[simp] theorem State.dropPending_counters (s : State) (p : Position) (d : District) : (s.dropPending p d).counters = s.counters := rfl
@[simp] theorem State.dropPending_pending (s : State) (p : Position) (d : District) : (s.dropPending p d).pending = s.pending := rfl
@[simp] theorem State.dropPending_freeCount (s : State) (p : Position) (d : District) : (s.dropPending p d).freeCount = s.freeCount := rfl
@[simp] theorem State.dropPending_district (s : State) (p : Position) (d : District) (e : District) : (s.dropPending p d).district e = s.district e := rfl
@[simp] theorem State.dropPending_watch (s : State) (p : Position) (d : District) (e : District) : (s.dropPending p d).watch e = s.watch e := rfl
@[simp] theorem State.dropPending_baseline (s : State) (p : Position) (d : District) (e : District) : (s.dropPending p d).baseline e = s.baseline e := rfl
@[simp] theorem State.dropPending_slot (s : State) (p : Position) (d : District) (j : SlotIndex) : (s.dropPending p d).slot j = s.slot j := rfl

@[simp] theorem State.dropPendingAll_running (s : State) (d : District) : (s.dropPendingAll d).running = s.running := rfl
@[simp] theorem State.dropPendingAll_nck (s : State) (d : District) : (s.dropPendingAll d).nck = s.nck := rfl
@[simp] theorem State.dropPendingAll_slots (s : State) (d : District) : (s.dropPendingAll d).slots = s.slots := rfl
@[simp] theorem State.dropPendingAll_strays (s : State) (d : District) : (s.dropPendingAll d).strays = s.strays := rfl
@[simp] theorem State.dropPendingAll_pressure (s : State) (d : District) : (s.dropPendingAll d).pressure = s.pressure := rfl
@[simp] theorem State.dropPendingAll_districts (s : State) (d : District) : (s.dropPendingAll d).districts = s.districts := rfl
@[simp] theorem State.dropPendingAll_queue (s : State) (d : District) : (s.dropPendingAll d).queue = s.queue := rfl
@[simp] theorem State.dropPendingAll_flight (s : State) (d : District) : (s.dropPendingAll d).flight = s.flight := rfl
@[simp] theorem State.dropPendingAll_choiceDue (s : State) (d : District) : (s.dropPendingAll d).choiceDue = s.choiceDue := rfl
@[simp] theorem State.dropPendingAll_baselines (s : State) (d : District) : (s.dropPendingAll d).baselines = s.baselines := rfl
@[simp] theorem State.dropPendingAll_watches (s : State) (d : District) : (s.dropPendingAll d).watches = s.watches := rfl
@[simp] theorem State.dropPendingAll_link (s : State) (d : District) : (s.dropPendingAll d).link = s.link := rfl
@[simp] theorem State.dropPendingAll_rqh (s : State) (d : District) : (s.dropPendingAll d).rqh = s.rqh := rfl
@[simp] theorem State.dropPendingAll_counters (s : State) (d : District) : (s.dropPendingAll d).counters = s.counters := rfl
@[simp] theorem State.dropPendingAll_pending (s : State) (d : District) : (s.dropPendingAll d).pending = s.pending := rfl
@[simp] theorem State.dropPendingAll_freeCount (s : State) (d : District) : (s.dropPendingAll d).freeCount = s.freeCount := rfl
@[simp] theorem State.dropPendingAll_district (s : State) (d : District) (e : District) : (s.dropPendingAll d).district e = s.district e := rfl
@[simp] theorem State.dropPendingAll_watch (s : State) (d : District) (e : District) : (s.dropPendingAll d).watch e = s.watch e := rfl
@[simp] theorem State.dropPendingAll_baseline (s : State) (d : District) (e : District) : (s.dropPendingAll d).baseline e = s.baseline e := rfl
@[simp] theorem State.dropPendingAll_slot (s : State) (d : District) (j : SlotIndex) : (s.dropPendingAll d).slot j = s.slot j := rfl

@[simp] theorem State.handOver_running (s : State) (d : District) (a : Alert) : (s.handOver d a).running = s.running := rfl
@[simp] theorem State.handOver_nck (s : State) (d : District) (a : Alert) : (s.handOver d a).nck = s.nck := rfl
@[simp] theorem State.handOver_slots (s : State) (d : District) (a : Alert) : (s.handOver d a).slots = s.slots := rfl
@[simp] theorem State.handOver_strays (s : State) (d : District) (a : Alert) : (s.handOver d a).strays = s.strays := rfl
@[simp] theorem State.handOver_pressure (s : State) (d : District) (a : Alert) : (s.handOver d a).pressure = s.pressure := rfl
@[simp] theorem State.handOver_districts (s : State) (d : District) (a : Alert) : (s.handOver d a).districts = s.districts := rfl
@[simp] theorem State.handOver_queue (s : State) (d : District) (a : Alert) : (s.handOver d a).queue = s.queue := rfl
@[simp] theorem State.handOver_flight (s : State) (d : District) (a : Alert) : (s.handOver d a).flight = s.flight := rfl
@[simp] theorem State.handOver_choiceDue (s : State) (d : District) (a : Alert) : (s.handOver d a).choiceDue = s.choiceDue := rfl
@[simp] theorem State.handOver_baselines (s : State) (d : District) (a : Alert) : (s.handOver d a).baselines = s.baselines := rfl
@[simp] theorem State.handOver_watches (s : State) (d : District) (a : Alert) : (s.handOver d a).watches = s.watches := rfl
@[simp] theorem State.handOver_link (s : State) (d : District) (a : Alert) : (s.handOver d a).link = s.link := rfl
@[simp] theorem State.handOver_counters (s : State) (d : District) (a : Alert) : (s.handOver d a).counters = s.counters := rfl
@[simp] theorem State.handOver_pending (s : State) (d : District) (a : Alert) : (s.handOver d a).pending = s.pending := rfl
@[simp] theorem State.handOver_freeCount (s : State) (d : District) (a : Alert) : (s.handOver d a).freeCount = s.freeCount := rfl
@[simp] theorem State.handOver_district (s : State) (d : District) (a : Alert) (e : District) : (s.handOver d a).district e = s.district e := rfl
@[simp] theorem State.handOver_watch (s : State) (d : District) (a : Alert) (e : District) : (s.handOver d a).watch e = s.watch e := rfl
@[simp] theorem State.handOver_baseline (s : State) (d : District) (a : Alert) (e : District) : (s.handOver d a).baseline e = s.baseline e := rfl
@[simp] theorem State.handOver_slot (s : State) (d : District) (a : Alert) (j : SlotIndex) : (s.handOver d a).slot j = s.slot j := rfl

@[simp] theorem State.purge_running (s : State) : s.purge.running = s.running := rfl
@[simp] theorem State.purge_nck (s : State) : s.purge.nck = s.nck := rfl
@[simp] theorem State.purge_strays (s : State) : s.purge.strays = s.strays := rfl
@[simp] theorem State.purge_districts (s : State) : s.purge.districts = s.districts := rfl
@[simp] theorem State.purge_queue (s : State) : s.purge.queue = s.queue := rfl
@[simp] theorem State.purge_flight (s : State) : s.purge.flight = s.flight := rfl
@[simp] theorem State.purge_choiceDue (s : State) : s.purge.choiceDue = s.choiceDue := rfl
@[simp] theorem State.purge_baselines (s : State) : s.purge.baselines = s.baselines := rfl
@[simp] theorem State.purge_watches (s : State) : s.purge.watches = s.watches := rfl
@[simp] theorem State.purge_stations (s : State) : s.purge.stations = s.stations := rfl
@[simp] theorem State.purge_link (s : State) : s.purge.link = s.link := rfl
@[simp] theorem State.purge_rqh (s : State) : s.purge.rqh = s.rqh := rfl
@[simp] theorem State.purge_counters (s : State) : s.purge.counters = s.counters := rfl
@[simp] theorem State.purge_pending (s : State) : s.purge.pending = s.pending := rfl
@[simp] theorem State.purge_freeCount (s : State) : s.purge.freeCount = s.freeCount := rfl
@[simp] theorem State.purge_district (s : State) (e : District) : s.purge.district e = s.district e := rfl
@[simp] theorem State.purge_watch (s : State) (e : District) : s.purge.watch e = s.watch e := rfl
@[simp] theorem State.purge_baseline (s : State) (e : District) : s.purge.baseline e = s.baseline e := rfl
@[simp] theorem State.purge_station (s : State) (q : Position) : s.purge.station q = s.station q := rfl

@[simp] theorem State.placeClock_running (s : State) (t : ClockTime) : (s.placeClock t).running = s.running := rfl
@[simp] theorem State.placeClock_slots (s : State) (t : ClockTime) : (s.placeClock t).slots = s.slots := rfl
@[simp] theorem State.placeClock_strays (s : State) (t : ClockTime) : (s.placeClock t).strays = s.strays := rfl
@[simp] theorem State.placeClock_pressure (s : State) (t : ClockTime) : (s.placeClock t).pressure = s.pressure := rfl
@[simp] theorem State.placeClock_districts (s : State) (t : ClockTime) : (s.placeClock t).districts = s.districts := rfl
@[simp] theorem State.placeClock_queue (s : State) (t : ClockTime) : (s.placeClock t).queue = s.queue := rfl
@[simp] theorem State.placeClock_flight (s : State) (t : ClockTime) : (s.placeClock t).flight = s.flight := rfl
@[simp] theorem State.placeClock_choiceDue (s : State) (t : ClockTime) : (s.placeClock t).choiceDue = s.choiceDue := rfl
@[simp] theorem State.placeClock_baselines (s : State) (t : ClockTime) : (s.placeClock t).baselines = s.baselines := rfl
@[simp] theorem State.placeClock_watches (s : State) (t : ClockTime) : (s.placeClock t).watches = s.watches := rfl
@[simp] theorem State.placeClock_stations (s : State) (t : ClockTime) : (s.placeClock t).stations = s.stations := rfl
@[simp] theorem State.placeClock_link (s : State) (t : ClockTime) : (s.placeClock t).link = s.link := rfl
@[simp] theorem State.placeClock_rqh (s : State) (t : ClockTime) : (s.placeClock t).rqh = s.rqh := rfl
@[simp] theorem State.placeClock_counters (s : State) (t : ClockTime) : (s.placeClock t).counters = s.counters := rfl
@[simp] theorem State.placeClock_pending (s : State) (t : ClockTime) : (s.placeClock t).pending = s.pending := rfl
@[simp] theorem State.placeClock_freeCount (s : State) (t : ClockTime) : (s.placeClock t).freeCount = s.freeCount := rfl
@[simp] theorem State.placeClock_district (s : State) (t : ClockTime) (e : District) : (s.placeClock t).district e = s.district e := rfl
@[simp] theorem State.placeClock_watch (s : State) (t : ClockTime) (e : District) : (s.placeClock t).watch e = s.watch e := rfl
@[simp] theorem State.placeClock_baseline (s : State) (t : ClockTime) (e : District) : (s.placeClock t).baseline e = s.baseline e := rfl
@[simp] theorem State.placeClock_station (s : State) (t : ClockTime) (q : Position) : (s.placeClock t).station q = s.station q := rfl
@[simp] theorem State.placeClock_slot (s : State) (t : ClockTime) (j : SlotIndex) : (s.placeClock t).slot j = s.slot j := rfl

@[simp] theorem State.giveGrant_running (s : State) (a : BitVec 4) : (s.giveGrant a).running = s.running := rfl
@[simp] theorem State.giveGrant_nck (s : State) (a : BitVec 4) : (s.giveGrant a).nck = s.nck := rfl
@[simp] theorem State.giveGrant_slots (s : State) (a : BitVec 4) : (s.giveGrant a).slots = s.slots := rfl
@[simp] theorem State.giveGrant_strays (s : State) (a : BitVec 4) : (s.giveGrant a).strays = s.strays := rfl
@[simp] theorem State.giveGrant_pressure (s : State) (a : BitVec 4) : (s.giveGrant a).pressure = s.pressure := rfl
@[simp] theorem State.giveGrant_districts (s : State) (a : BitVec 4) : (s.giveGrant a).districts = s.districts := rfl
@[simp] theorem State.giveGrant_queue (s : State) (a : BitVec 4) : (s.giveGrant a).queue = s.queue := rfl
@[simp] theorem State.giveGrant_flight (s : State) (a : BitVec 4) : (s.giveGrant a).flight = s.flight := rfl
@[simp] theorem State.giveGrant_choiceDue (s : State) (a : BitVec 4) : (s.giveGrant a).choiceDue = s.choiceDue := rfl
@[simp] theorem State.giveGrant_baselines (s : State) (a : BitVec 4) : (s.giveGrant a).baselines = s.baselines := rfl
@[simp] theorem State.giveGrant_watches (s : State) (a : BitVec 4) : (s.giveGrant a).watches = s.watches := rfl
@[simp] theorem State.giveGrant_stations (s : State) (a : BitVec 4) : (s.giveGrant a).stations = s.stations := rfl
@[simp] theorem State.giveGrant_counters (s : State) (a : BitVec 4) : (s.giveGrant a).counters = s.counters := rfl
@[simp] theorem State.giveGrant_pending (s : State) (a : BitVec 4) : (s.giveGrant a).pending = s.pending := rfl
@[simp] theorem State.giveGrant_freeCount (s : State) (a : BitVec 4) : (s.giveGrant a).freeCount = s.freeCount := rfl
@[simp] theorem State.giveGrant_district (s : State) (a : BitVec 4) (e : District) : (s.giveGrant a).district e = s.district e := rfl
@[simp] theorem State.giveGrant_watch (s : State) (a : BitVec 4) (e : District) : (s.giveGrant a).watch e = s.watch e := rfl
@[simp] theorem State.giveGrant_baseline (s : State) (a : BitVec 4) (e : District) : (s.giveGrant a).baseline e = s.baseline e := rfl
@[simp] theorem State.giveGrant_station (s : State) (a : BitVec 4) (q : Position) : (s.giveGrant a).station q = s.station q := rfl
@[simp] theorem State.giveGrant_slot (s : State) (a : BitVec 4) (j : SlotIndex) : (s.giveGrant a).slot j = s.slot j := rfl

@[simp] theorem State.startAnswer_running (s : State) (b : Byte) (r : Reply) : (s.startAnswer b r).running = s.running := rfl
@[simp] theorem State.startAnswer_nck (s : State) (b : Byte) (r : Reply) : (s.startAnswer b r).nck = s.nck := rfl
@[simp] theorem State.startAnswer_slots (s : State) (b : Byte) (r : Reply) : (s.startAnswer b r).slots = s.slots := rfl
@[simp] theorem State.startAnswer_strays (s : State) (b : Byte) (r : Reply) : (s.startAnswer b r).strays = s.strays := rfl
@[simp] theorem State.startAnswer_pressure (s : State) (b : Byte) (r : Reply) : (s.startAnswer b r).pressure = s.pressure := rfl
@[simp] theorem State.startAnswer_districts (s : State) (b : Byte) (r : Reply) : (s.startAnswer b r).districts = s.districts := rfl
@[simp] theorem State.startAnswer_queue (s : State) (b : Byte) (r : Reply) : (s.startAnswer b r).queue = s.queue := rfl
@[simp] theorem State.startAnswer_flight (s : State) (b : Byte) (r : Reply) : (s.startAnswer b r).flight = s.flight := rfl
@[simp] theorem State.startAnswer_choiceDue (s : State) (b : Byte) (r : Reply) : (s.startAnswer b r).choiceDue = s.choiceDue := rfl
@[simp] theorem State.startAnswer_baselines (s : State) (b : Byte) (r : Reply) : (s.startAnswer b r).baselines = s.baselines := rfl
@[simp] theorem State.startAnswer_watches (s : State) (b : Byte) (r : Reply) : (s.startAnswer b r).watches = s.watches := rfl
@[simp] theorem State.startAnswer_stations (s : State) (b : Byte) (r : Reply) : (s.startAnswer b r).stations = s.stations := rfl
@[simp] theorem State.startAnswer_rqh (s : State) (b : Byte) (r : Reply) : (s.startAnswer b r).rqh = s.rqh := rfl
@[simp] theorem State.startAnswer_counters (s : State) (b : Byte) (r : Reply) : (s.startAnswer b r).counters = s.counters := rfl
@[simp] theorem State.startAnswer_pending (s : State) (b : Byte) (r : Reply) : (s.startAnswer b r).pending = s.pending := rfl
@[simp] theorem State.startAnswer_freeCount (s : State) (b : Byte) (r : Reply) : (s.startAnswer b r).freeCount = s.freeCount := rfl
@[simp] theorem State.startAnswer_district (s : State) (b : Byte) (r : Reply) (e : District) : (s.startAnswer b r).district e = s.district e := rfl
@[simp] theorem State.startAnswer_watch (s : State) (b : Byte) (r : Reply) (e : District) : (s.startAnswer b r).watch e = s.watch e := rfl
@[simp] theorem State.startAnswer_baseline (s : State) (b : Byte) (r : Reply) (e : District) : (s.startAnswer b r).baseline e = s.baseline e := rfl
@[simp] theorem State.startAnswer_station (s : State) (b : Byte) (r : Reply) (q : Position) : (s.startAnswer b r).station q = s.station q := rfl
@[simp] theorem State.startAnswer_slot (s : State) (b : Byte) (r : Reply) (j : SlotIndex) : (s.startAnswer b r).slot j = s.slot j := rfl

@[simp] theorem State.refuseEnvelope_running (s : State) (st : Status) : (s.refuseEnvelope st).running = s.running := rfl
@[simp] theorem State.refuseEnvelope_nck (s : State) (st : Status) : (s.refuseEnvelope st).nck = s.nck := rfl
@[simp] theorem State.refuseEnvelope_slots (s : State) (st : Status) : (s.refuseEnvelope st).slots = s.slots := rfl
@[simp] theorem State.refuseEnvelope_strays (s : State) (st : Status) : (s.refuseEnvelope st).strays = s.strays := rfl
@[simp] theorem State.refuseEnvelope_pressure (s : State) (st : Status) : (s.refuseEnvelope st).pressure = s.pressure := rfl
@[simp] theorem State.refuseEnvelope_districts (s : State) (st : Status) : (s.refuseEnvelope st).districts = s.districts := rfl
@[simp] theorem State.refuseEnvelope_queue (s : State) (st : Status) : (s.refuseEnvelope st).queue = s.queue := rfl
@[simp] theorem State.refuseEnvelope_flight (s : State) (st : Status) : (s.refuseEnvelope st).flight = s.flight := rfl
@[simp] theorem State.refuseEnvelope_choiceDue (s : State) (st : Status) : (s.refuseEnvelope st).choiceDue = s.choiceDue := rfl
@[simp] theorem State.refuseEnvelope_baselines (s : State) (st : Status) : (s.refuseEnvelope st).baselines = s.baselines := rfl
@[simp] theorem State.refuseEnvelope_watches (s : State) (st : Status) : (s.refuseEnvelope st).watches = s.watches := rfl
@[simp] theorem State.refuseEnvelope_stations (s : State) (st : Status) : (s.refuseEnvelope st).stations = s.stations := rfl
@[simp] theorem State.refuseEnvelope_rqh (s : State) (st : Status) : (s.refuseEnvelope st).rqh = s.rqh := rfl
@[simp] theorem State.refuseEnvelope_pending (s : State) (st : Status) : (s.refuseEnvelope st).pending = s.pending := rfl
@[simp] theorem State.refuseEnvelope_freeCount (s : State) (st : Status) : (s.refuseEnvelope st).freeCount = s.freeCount := rfl
@[simp] theorem State.refuseEnvelope_district (s : State) (st : Status) (e : District) : (s.refuseEnvelope st).district e = s.district e := rfl
@[simp] theorem State.refuseEnvelope_watch (s : State) (st : Status) (e : District) : (s.refuseEnvelope st).watch e = s.watch e := rfl
@[simp] theorem State.refuseEnvelope_baseline (s : State) (st : Status) (e : District) : (s.refuseEnvelope st).baseline e = s.baseline e := rfl
@[simp] theorem State.refuseEnvelope_station (s : State) (st : Status) (q : Position) : (s.refuseEnvelope st).station q = s.station q := rfl
@[simp] theorem State.refuseEnvelope_slot (s : State) (st : Status) (j : SlotIndex) : (s.refuseEnvelope st).slot j = s.slot j := rfl

@[simp] theorem State.received_running (s : State) (m : List Byte) : (s.received m).running = s.running := rfl
@[simp] theorem State.received_nck (s : State) (m : List Byte) : (s.received m).nck = s.nck := rfl
@[simp] theorem State.received_slots (s : State) (m : List Byte) : (s.received m).slots = s.slots := rfl
@[simp] theorem State.received_strays (s : State) (m : List Byte) : (s.received m).strays = s.strays := rfl
@[simp] theorem State.received_pressure (s : State) (m : List Byte) : (s.received m).pressure = s.pressure := rfl
@[simp] theorem State.received_districts (s : State) (m : List Byte) : (s.received m).districts = s.districts := rfl
@[simp] theorem State.received_queue (s : State) (m : List Byte) : (s.received m).queue = s.queue := rfl
@[simp] theorem State.received_flight (s : State) (m : List Byte) : (s.received m).flight = s.flight := rfl
@[simp] theorem State.received_choiceDue (s : State) (m : List Byte) : (s.received m).choiceDue = s.choiceDue := rfl
@[simp] theorem State.received_baselines (s : State) (m : List Byte) : (s.received m).baselines = s.baselines := rfl
@[simp] theorem State.received_watches (s : State) (m : List Byte) : (s.received m).watches = s.watches := rfl
@[simp] theorem State.received_stations (s : State) (m : List Byte) : (s.received m).stations = s.stations := rfl
@[simp] theorem State.received_rqh (s : State) (m : List Byte) : (s.received m).rqh = s.rqh := rfl
@[simp] theorem State.received_counters (s : State) (m : List Byte) : (s.received m).counters = s.counters := rfl
@[simp] theorem State.received_pending (s : State) (m : List Byte) : (s.received m).pending = s.pending := rfl
@[simp] theorem State.received_freeCount (s : State) (m : List Byte) : (s.received m).freeCount = s.freeCount := rfl
@[simp] theorem State.received_district (s : State) (m : List Byte) (e : District) : (s.received m).district e = s.district e := rfl
@[simp] theorem State.received_watch (s : State) (m : List Byte) (e : District) : (s.received m).watch e = s.watch e := rfl
@[simp] theorem State.received_baseline (s : State) (m : List Byte) (e : District) : (s.received m).baseline e = s.baseline e := rfl
@[simp] theorem State.received_station (s : State) (m : List Byte) (q : Position) : (s.received m).station q = s.station q := rfl
@[simp] theorem State.received_slot (s : State) (m : List Byte) (j : SlotIndex) : (s.received m).slot j = s.slot j := rfl

@[simp] theorem State.nextFrame_running (s : State) : s.nextFrame.running = s.running := rfl
@[simp] theorem State.nextFrame_nck (s : State) : s.nextFrame.nck = s.nck := rfl
@[simp] theorem State.nextFrame_slots (s : State) : s.nextFrame.slots = s.slots := rfl
@[simp] theorem State.nextFrame_strays (s : State) : s.nextFrame.strays = s.strays := rfl
@[simp] theorem State.nextFrame_pressure (s : State) : s.nextFrame.pressure = s.pressure := rfl
@[simp] theorem State.nextFrame_districts (s : State) : s.nextFrame.districts = s.districts := rfl
@[simp] theorem State.nextFrame_queue (s : State) : s.nextFrame.queue = s.queue := rfl
@[simp] theorem State.nextFrame_flight (s : State) : s.nextFrame.flight = s.flight := rfl
@[simp] theorem State.nextFrame_choiceDue (s : State) : s.nextFrame.choiceDue = s.choiceDue := rfl
@[simp] theorem State.nextFrame_baselines (s : State) : s.nextFrame.baselines = s.baselines := rfl
@[simp] theorem State.nextFrame_watches (s : State) : s.nextFrame.watches = s.watches := rfl
@[simp] theorem State.nextFrame_stations (s : State) : s.nextFrame.stations = s.stations := rfl
@[simp] theorem State.nextFrame_rqh (s : State) : s.nextFrame.rqh = s.rqh := rfl
@[simp] theorem State.nextFrame_counters (s : State) : s.nextFrame.counters = s.counters := rfl
@[simp] theorem State.nextFrame_pending (s : State) : s.nextFrame.pending = s.pending := rfl
@[simp] theorem State.nextFrame_freeCount (s : State) : s.nextFrame.freeCount = s.freeCount := rfl
@[simp] theorem State.nextFrame_district (s : State) (e : District) : s.nextFrame.district e = s.district e := rfl
@[simp] theorem State.nextFrame_watch (s : State) (e : District) : s.nextFrame.watch e = s.watch e := rfl
@[simp] theorem State.nextFrame_baseline (s : State) (e : District) : s.nextFrame.baseline e = s.baseline e := rfl
@[simp] theorem State.nextFrame_station (s : State) (q : Position) : s.nextFrame.station q = s.station q := rfl
@[simp] theorem State.nextFrame_slot (s : State) (j : SlotIndex) : s.nextFrame.slot j = s.slot j := rfl

end Sys2Proof.Machine
end

