-- ==== Sys2Proof/Laws/Operations.lean ====
section
/-!
SUPPORT. One lemma for each shared operation that says everything it can touch: the result is the state before with only the named
fields as the operation leaves them.
-/

namespace Sys2Proof.Machine

/-! ## Small operations -/

theorem bump_eq_min {limit n : Nat} (h : n ≤ limit) : bump limit n = min limit (n + 1) := by
  unfold bump; split <;> omega

theorem bump_le (limit n : Nat) : bump limit n ≤ limit := by
  unfold bump; split <;> omega

theorem clampInt_mem {lo hi : Int} (h : lo ≤ hi) (x : Int) : lo ≤ clampInt lo hi x ∧ clampInt lo hi x ≤ hi := by
  unfold clampInt; split
  · omega
  · split <;> omega

/-- A fold keeps whatever each of its steps keeps. -/
theorem foldl_keeps {σ α : Type} {P : σ → Prop} (f : σ → α → σ) (h : ∀ s a, P s → P (f s a)) (l : List α) (s : σ) (hs : P s) :
    P (l.foldl f s) := by
  induction l generalizing s with
  | nil => exact hs
  | cons a l ih => exact ih _ (h s a hs)

/-- A prompt makes a choice due exactly while no evaluation is in flight, and does nothing else. -/
theorem State.prompt_eq (s : State) : s.prompt = { s with choiceDue := s.choiceDue || s.flight.isNone } := by
  unfold State.prompt
  cases h : s.flight.isNone <;> simp

/-! ## Event flags -/

/-- Raising a flag touches stations and the note of a READ EVENTS only. -/
theorem State.raiseAt_frame (f : EventFlag) (s : State) (p : Position) :
    s.raiseAt f p = { s with stations := (s.raiseAt f p).stations, rqh.events := (s.raiseAt f p).rqh.events } := by
  unfold State.raiseAt; split <;> rfl

/-- A raised flag reaches position `p`, if it is occupied, and no other. -/
theorem State.raiseAt_station (f : EventFlag) (s : State) (p q : Position) :
    (s.raiseAt f p).station q =
      if q = p ∧ (s.station p).occupied = true then { s.station q with flags := (s.station q).flags ||| f.mask } else s.station q := by
  unfold State.raiseAt
  split
  next h =>
    rw [show State.station { s.modStation p (fun st => { st with flags := st.flags ||| f.mask }) with
          rqh.events := s.rqh.events.map (fun n => if n.position = p then { n with flags := n.flags &&& ~~~ f.mask } else n) } q =
        (s.modStation p (fun st => { st with flags := st.flags ||| f.mask })).station q from rfl, State.station_modStation]
    by_cases e : q = p
    · subst e; simp [h]
    · simp [e]
  next h => simp [h]

/-- A flag raised at an occupied position leaves the noted clearing of that position's flags, and of no other (R169). -/
theorem State.raiseAt_events (f : EventFlag) (s : State) (p : Position) :
    (s.raiseAt f p).rqh.events = s.rqh.events.map (fun n =>
      if n.position = p ∧ (s.station p).occupied = true then { n with flags := n.flags &&& ~~~ f.mask } else n) := by
  unfold State.raiseAt
  split
  next h => simp [h]
  next h => simp [h]

/-- Raising a flag at several positions touches stations and the note of a READ EVENTS only. -/
theorem State.raiseEach_frame (f : EventFlag) (l : List Position) (s : State) :
    l.foldl (State.raiseAt f) s =
      { s with stations := (l.foldl (State.raiseAt f) s).stations, rqh.events := (l.foldl (State.raiseAt f) s).rqh.events } := by
  induction l generalizing s with
  | nil => rfl
  | cons p l ih =>
    rw [List.foldl_cons, ih (s.raiseAt f p), State.raiseAt_frame f s p]

theorem State.raiseAll_frame (f : EventFlag) (s : State) :
    s.raiseAll f = { s with stations := (s.raiseAll f).stations, rqh.events := (s.raiseAll f).rqh.events } :=
  State.raiseEach_frame f allPositions s

theorem State.configChanged_frame (s : State) (p : Position) :
    s.configChanged p = { s with stations := (s.configChanged p).stations, rqh.events := (s.configChanged p).rqh.events } :=
  State.raiseEach_frame .configChanged _ s

/-! ## Alert changes -/

theorem State.endCleared_frame (s : State) (d : District) :
    s.endCleared d = { s with
      watches := (s.endCleared d).watches, stations := (s.endCleared d).stations, rqh.notice := (s.endCleared d).rqh.notice } := by
  unfold State.endCleared; split <;> rfl

theorem State.alertChanged_frame (s : State) (d : District) :
    s.alertChanged d = { s with
      watches := (s.alertChanged d).watches, stations := (s.alertChanged d).stations, rqh.notice := (s.alertChanged d).rqh.notice } := by
  unfold State.alertChanged; rw [State.endCleared_frame]; rfl

theorem State.changeAlert_frame (s : State) (d : District) (a : Alert) :
    s.changeAlert d a = { s with
      watches := (s.changeAlert d a).watches, stations := (s.changeAlert d a).stations, rqh.notice := (s.changeAlert d a).rqh.notice } := by
  unfold State.changeAlert
  split
  · rfl
  · rw [State.alertChanged_frame]; rfl

/-- Applying a result touches watches, pending sets and the note of a TAKE NOTICE only. -/
theorem State.applyResult_frame (s : State) (d : District) (st : ResultStatus) (v : Verdict) :
    s.applyResult d st v = { s with
      watches := (s.applyResult d st v).watches, stations := (s.applyResult d st v).stations
      rqh.notice := (s.applyResult d st v).rqh.notice } := by
  unfold State.applyResult
  dsimp only
  split
  · rw [State.alertChanged_frame]; rfl
  · rfl

theorem State.publishSkipped_frame (s : State) (d : District) (n : Nat) (why : Reason) :
    s.publishSkipped d n why = { s with
      districts := (s.publishSkipped d n why).districts, watches := (s.publishSkipped d n why).watches
      stations := (s.publishSkipped d n why).stations, rqh.notice := (s.publishSkipped d n why).rqh.notice } := by
  unfold State.publishSkipped; rw [State.applyResult_frame]; rfl

/-! ## Queue and completion checks -/

/-- A district that joins the queue is QUEUED, stands last, and prompts the unit. -/
theorem State.enqueue_eq (s : State) (d : District) (why : QueueReason) :
    s.enqueue d why = { s with
      districts := s.districts.modify d (fun r => { r with nightState := .queued }), queue := s.queue ++ [⟨d, why⟩]
      choiceDue := s.choiceDue || s.flight.isNone } := by
  unfold State.enqueue; rw [State.prompt_eq]; rfl

theorem State.completionCheck_frame (s : State) (d : District) :
    s.completionCheck d = { s with
      districts := (s.completionCheck d).districts, queue := (s.completionCheck d).queue, choiceDue := (s.completionCheck d).choiceDue } := by
  unfold State.completionCheck
  split
  · rw [State.enqueue_eq]
  · rfl

theorem State.completionChecks_frame (l : List District) (s : State) :
    l.foldl State.completionCheck s = { s with
      districts := (l.foldl State.completionCheck s).districts, queue := (l.foldl State.completionCheck s).queue
      choiceDue := (l.foldl State.completionCheck s).choiceDue } := by
  induction l generalizing s with
  | nil => rfl
  | cons d l ih => rw [List.foldl_cons, ih (s.completionCheck d), State.completionCheck_frame s d]

theorem State.checkSlotDistricts_frame (s : State) (sl : Slot) :
    s.checkSlotDistricts sl = { s with
      districts := (s.checkSlotDistricts sl).districts, queue := (s.checkSlotDistricts sl).queue
      choiceDue := (s.checkSlotDistricts sl).choiceDue } := by
  unfold State.checkSlotDistricts
  split
  · exact State.completionChecks_frame _ s
  · rfl

/-! ## Evaluation and night end -/

theorem State.offer_frame (s : State) (d : District) (r : Result) :
    s.offer d r = { s with baselines := (s.offer d r).baselines } := by
  unfold State.offer
  split
  · split <;> rfl
  · rfl

theorem State.nightEndTest_frame (s : State) :
    s.nightEndTest = { s with
      nck.phase := s.nightEndTest.nck.phase, stations := s.nightEndTest.stations, rqh.events := s.nightEndTest.rqh.events } := by
  unfold State.nightEndTest
  split
  · rw [State.raiseAll_frame]
  · rfl

/-- A choice touches the night state of the district it takes, the queue, the flight and "choice due" only. -/
theorem State.choose_frame (s : State) :
    s.choose = { s with
      districts := s.choose.districts, queue := s.choose.queue, flight := s.choose.flight, choiceDue := s.choose.choiceDue } := by
  unfold State.choose
  split
  · split <;> rfl
  · rfl

theorem State.settleResult_frame (s : State) (d : District) (p : Option Nat) (r : Result) :
    s.settleResult d p r = { s with
      districts := (s.settleResult d p r).districts, flight := none, baselines := (s.settleResult d p r).baselines
      watches := (s.settleResult d p r).watches, stations := (s.settleResult d p r).stations
      rqh.notice := (s.settleResult d p r).rqh.notice } := by
  unfold State.settleResult; dsimp only; rw [State.applyResult_frame, State.offer_frame]; rfl

/-- A completion touches the night phase, the district records, flight, "choice due", rings, watches, stations and the notes only. -/
theorem State.completeEvaluation_frame (s : State) :
    s.completeEvaluation = { s with
      nck.phase := s.completeEvaluation.nck.phase, districts := s.completeEvaluation.districts, flight := s.completeEvaluation.flight
      choiceDue := s.completeEvaluation.choiceDue, baselines := s.completeEvaluation.baselines
      watches := s.completeEvaluation.watches, stations := s.completeEvaluation.stations, rqh := s.completeEvaluation.rqh } := by
  unfold State.completeEvaluation
  split
  · rw [State.prompt_eq, State.nightEndTest_frame, State.settleResult_frame]
  · rfl

/-! ## The night's boundaries and the holds -/

theorem State.assignNight_frame (n : Nat) (s : State) (d : District) :
    s.assignNight n d = { s with
      districts := (s.assignNight n d).districts, watches := (s.assignNight n d).watches
      stations := (s.assignNight n d).stations, rqh.notice := (s.assignNight n d).rqh.notice } := by
  unfold State.assignNight
  split
  · split
    · rfl
    · rw [State.publishSkipped_frame]
  · rfl

theorem State.queueByGrace_frame (s : State) (d : District) :
    s.queueByGrace d = { s with
      districts := (s.queueByGrace d).districts, queue := (s.queueByGrace d).queue, choiceDue := (s.queueByGrace d).choiceDue } := by
  unfold State.queueByGrace
  split
  · rw [State.enqueue_eq]
  · rfl

/-- A hold that runs out touches its district, "choice due", stations and the note of a READ EVENTS only. -/
theorem State.expireHold_frame (s : State) (d : District) :
    s.expireHold d = { s with
      districts := (s.expireHold d).districts, choiceDue := (s.expireHold d).choiceDue, stations := (s.expireHold d).stations
      rqh.events := (s.expireHold d).rqh.events } := by
  unfold State.expireHold
  split
  · rw [State.prompt_eq, State.raiseAt_frame]; rfl
  · rfl

/-! ## The link -/

/-- The end of a grant touches the link's phase, holder and fairness hold and the notes only. -/
theorem State.endGrant_frame (s : State) :
    s.endGrant = { s with
      link.phase := s.endGrant.link.phase, link.holder := none, link.fairness := s.endGrant.link.fairness, rqh := s.endGrant.rqh } := by
  unfold State.endGrant
  split
  · rfl
  next h => rw [← h]

theorem State.commitNotice_frame (s : State) :
    s.commitNotice = { s with
      watches := s.commitNotice.watches, stations := s.commitNotice.stations, rqh.notice := s.commitNotice.rqh.notice } := by
  unfold State.commitNotice
  split
  · split
    · rw [State.endCleared_frame]; rfl
    · rfl
  · rfl

theorem State.commitEvents_frame (s : State) : s.commitEvents = { s with stations := s.commitEvents.stations } := by
  unfold State.commitEvents; split <;> rfl

/-- A row of the link that applies is its effect, and then the next frame begins; one that does not leaves the state. -/
theorem frameRow_eq (b : Bool) (f : State → State) (s : State) :
    frameRow b f s = if b then { f s with link.dn := (f s).downstream } else s := rfl

/-- A row that ends in a frame that is no break frame takes its effect with the break run at 0. -/
theorem quietRow_eq (b : Bool) (f : State → State) (s : State) :
    quietRow b f s = if b then (f { s with link.breakRun := 0 }).nextFrame else s := rfl

/-- A filed entry touches its slot, the stored counter, and the districts it completes with the queue and "choice due". -/
theorem State.fileEntry_frame (s : State) (i : SlotIndex) (k v : Nat) (e c : Bool) :
    (s.fileEntry i k v e c).1 = { s with
      slots := (s.fileEntry i k v e c).1.slots, districts := (s.fileEntry i k v e c).1.districts
      queue := (s.fileEntry i k v e c).1.queue, choiceDue := (s.fileEntry i k v e c).1.choiceDue
      counters := (s.fileEntry i k v e c).1.counters } := by
  unfold State.fileEntry
  dsimp only
  split
  · dsimp only; rw [State.checkSlotDistricts_frame]; rfl
  · rfl

/-- An examined entry touches slots, strays, districts, the queue, "choice due" and the intake counters only. -/
theorem State.examine_frame (s : State) (e : Entry) :
    (s.examine e).1 = { s with
      slots := (s.examine e).1.slots, strays := (s.examine e).1.strays, districts := (s.examine e).1.districts
      queue := (s.examine e).1.queue, choiceDue := (s.examine e).1.choiceDue, counters := (s.examine e).1.counters } := by
  unfold State.examine
  dsimp only
  repeat' split
  all_goals first | rfl | (rw [State.fileEntry_frame])

end Sys2Proof.Machine
end

