-- ==== Sys2Proof/Laws/PerInstr.lean ====
section
/-!
SUPPORT. For every command: the message of a request row fits the receive buffer (R182, R183, R193).
-/

namespace Sys2Proof.Laws

/-- The message that a well-formed command stands for, if it stands for one, has 3 to 64 bytes. -/
def RequestFits.Statement (i : Instr) : Prop :=
  i.wellFormed = true → ∀ m, i.message = some m → 3 ≤ m.length ∧ m.length ≤ 64

/-- A request message is three bytes longer than its body. -/
theorem requestMessage_length (k : Kind) (body : List Byte) : (requestMessage k body).length = body.length + 3 := by
  simp [requestMessage, closed]

/-- A message built from a kind and a body of at most 61 bytes fits. -/
theorem fits_of_body (k : Kind) (body m : List Byte) (h : body.length ≤ 61) (e : some (requestMessage k body) = some m) :
    3 ≤ m.length ∧ m.length ≤ 64 := by
  cases e
  rw [requestMessage_length]
  omega

theorem RequestFits.powerOnReset (strap : BitVec 4) : RequestFits.Statement (.powerOnReset strap) :=
  fun _ _ e => nomatch e

theorem RequestFits.minuteEvent : RequestFits.Statement .minuteEvent :=
  fun _ _ e => nomatch e

theorem RequestFits.windowStart : RequestFits.Statement .windowStart :=
  fun _ _ e => nomatch e

theorem RequestFits.windowEnd : RequestFits.Statement .windowEnd :=
  fun _ _ e => nomatch e

theorem RequestFits.graceExpiry : RequestFits.Statement .graceExpiry :=
  fun _ _ e => nomatch e

theorem RequestFits.holdExpiry (district : District) : RequestFits.Statement (.holdExpiry district) :=
  fun _ _ e => nomatch e

theorem RequestFits.choice : RequestFits.Statement .choice :=
  fun _ _ e => nomatch e

theorem RequestFits.evaluationCompletion : RequestFits.Statement .evaluationCompletion :=
  fun _ _ e => nomatch e

theorem RequestFits.contention (address : BitVec 4) : RequestFits.Statement (.contention address) :=
  fun _ _ e => nomatch e

theorem RequestFits.fairnessHoldCleared : RequestFits.Statement .fairnessHoldCleared :=
  fun _ _ e => nomatch e

theorem RequestFits.envelopeCheckRefusal (message : List Byte) : RequestFits.Statement (.envelopeCheckRefusal message) :=
  fun _ _ e => nomatch e

theorem RequestFits.answerCompletion : RequestFits.Statement .answerCompletion :=
  fun _ _ e => nomatch e

theorem RequestFits.handshakeTimeout : RequestFits.Statement .handshakeTimeout :=
  fun _ _ e => nomatch e

theorem RequestFits.breakEndsGrant : RequestFits.Statement .breakEndsGrant :=
  fun _ _ e => nomatch e

theorem RequestFits.linkBreak : RequestFits.Statement .linkBreak :=
  fun _ _ e => nomatch e

theorem RequestFits.setTime (body : List Byte) : RequestFits.Statement (.setTime body) :=
  fun w m e => fits_of_body _ body m (by simpa [Instr.wellFormed, Instr.requestBody] using w) e

theorem RequestFits.setWindow (body : List Byte) : RequestFits.Statement (.setWindow body) :=
  fun w m e => fits_of_body _ body m (by simpa [Instr.wellFormed, Instr.requestBody] using w) e

theorem RequestFits.closeNight (body : List Byte) : RequestFits.Statement (.closeNight body) :=
  fun w m e => fits_of_body _ body m (by simpa [Instr.wellFormed, Instr.requestBody] using w) e

theorem RequestFits.restartEngine (body : List Byte) : RequestFits.Statement (.restartEngine body) :=
  fun w m e => fits_of_body _ body m (by simpa [Instr.wellFormed, Instr.requestBody] using w) e

theorem RequestFits.bindMeter (body : List Byte) : RequestFits.Statement (.bindMeter body) :=
  fun w m e => fits_of_body _ body m (by simpa [Instr.wellFormed, Instr.requestBody] using w) e

theorem RequestFits.unbindMeter (slot : Byte) : RequestFits.Statement (.unbindMeter slot) :=
  fun _ m e => fits_of_body _ _ m (by simp) e

theorem RequestFits.enableMeter (body : List Byte) : RequestFits.Statement (.enableMeter body) :=
  fun w m e => fits_of_body _ body m (by simpa [Instr.wellFormed, Instr.requestBody] using w) e

theorem RequestFits.disableMeter (body : List Byte) : RequestFits.Statement (.disableMeter body) :=
  fun w m e => fits_of_body _ body m (by simpa [Instr.wellFormed, Instr.requestBody] using w) e

theorem RequestFits.readMeter (body : List Byte) : RequestFits.Statement (.readMeter body) :=
  fun w m e => fits_of_body _ body m (by simpa [Instr.wellFormed, Instr.requestBody] using w) e

theorem RequestFits.readStrayList (body : List Byte) : RequestFits.Statement (.readStrayList body) :=
  fun w m e => fits_of_body _ body m (by simpa [Instr.wellFormed, Instr.requestBody] using w) e

theorem RequestFits.forgetStrays (body : List Byte) : RequestFits.Statement (.forgetStrays body) :=
  fun w m e => fits_of_body _ body m (by simpa [Instr.wellFormed, Instr.requestBody] using w) e

theorem RequestFits.postReading (body : List Byte) : RequestFits.Statement (.postReading body) :=
  fun w m e => fits_of_body _ body m (by simpa [Instr.wellFormed, Instr.requestBody] using w) e

theorem RequestFits.postPressure (body : List Byte) : RequestFits.Statement (.postPressure body) :=
  fun w m e => fits_of_body _ body m (by simpa [Instr.wellFormed, Instr.requestBody] using w) e

theorem RequestFits.configureDistrict (body : List Byte) : RequestFits.Statement (.configureDistrict body) :=
  fun w m e => fits_of_body _ body m (by simpa [Instr.wellFormed, Instr.requestBody] using w) e

theorem RequestFits.setServiceOut (district : Byte) : RequestFits.Statement (.setServiceOut district) :=
  fun _ m e => fits_of_body _ _ m (by simp) e

theorem RequestFits.setServiceIn (district : Byte) : RequestFits.Statement (.setServiceIn district) :=
  fun _ m e => fits_of_body _ _ m (by simp) e

theorem RequestFits.holdDistrict (body : List Byte) : RequestFits.Statement (.holdDistrict body) :=
  fun w m e => fits_of_body _ body m (by simpa [Instr.wellFormed, Instr.requestBody] using w) e

theorem RequestFits.releaseDistrict (body : List Byte) : RequestFits.Statement (.releaseDistrict body) :=
  fun w m e => fits_of_body _ body m (by simpa [Instr.wellFormed, Instr.requestBody] using w) e

theorem RequestFits.readDistrict (body : List Byte) : RequestFits.Statement (.readDistrict body) :=
  fun w m e => fits_of_body _ body m (by simpa [Instr.wellFormed, Instr.requestBody] using w) e

theorem RequestFits.readResult (body : List Byte) : RequestFits.Statement (.readResult body) :=
  fun w m e => fits_of_body _ body m (by simpa [Instr.wellFormed, Instr.requestBody] using w) e

theorem RequestFits.readQueue (body : List Byte) : RequestFits.Statement (.readQueue body) :=
  fun w m e => fits_of_body _ body m (by simpa [Instr.wellFormed, Instr.requestBody] using w) e

theorem RequestFits.setBaselineMode (body : List Byte) : RequestFits.Statement (.setBaselineMode body) :=
  fun w m e => fits_of_body _ body m (by simpa [Instr.wellFormed, Instr.requestBody] using w) e

theorem RequestFits.loadRing (body : List Byte) : RequestFits.Statement (.loadRing body) :=
  fun w m e => fits_of_body _ body m (by simpa [Instr.wellFormed, Instr.requestBody] using w) e

theorem RequestFits.clearRing (body : List Byte) : RequestFits.Statement (.clearRing body) :=
  fun w m e => fits_of_body _ body m (by simpa [Instr.wellFormed, Instr.requestBody] using w) e

theorem RequestFits.readRing (body : List Byte) : RequestFits.Statement (.readRing body) :=
  fun w m e => fits_of_body _ body m (by simpa [Instr.wellFormed, Instr.requestBody] using w) e

theorem RequestFits.acknowledge (body : List Byte) : RequestFits.Statement (.acknowledge body) :=
  fun w m e => fits_of_body _ body m (by simpa [Instr.wellFormed, Instr.requestBody] using w) e

theorem RequestFits.markRepaired (body : List Byte) : RequestFits.Statement (.markRepaired body) :=
  fun w m e => fits_of_body _ body m (by simpa [Instr.wellFormed, Instr.requestBody] using w) e

theorem RequestFits.readWatch (body : List Byte) : RequestFits.Statement (.readWatch body) :=
  fun w m e => fits_of_body _ body m (by simpa [Instr.wellFormed, Instr.requestBody] using w) e

theorem RequestFits.setStation (body : List Byte) : RequestFits.Statement (.setStation body) :=
  fun w m e => fits_of_body _ body m (by simpa [Instr.wellFormed, Instr.requestBody] using w) e

theorem RequestFits.setEventMask (body : List Byte) : RequestFits.Statement (.setEventMask body) :=
  fun w m e => fits_of_body _ body m (by simpa [Instr.wellFormed, Instr.requestBody] using w) e

theorem RequestFits.takeNotice (body : List Byte) : RequestFits.Statement (.takeNotice body) :=
  fun w m e => fits_of_body _ body m (by simpa [Instr.wellFormed, Instr.requestBody] using w) e

theorem RequestFits.readEvents (body : List Byte) : RequestFits.Statement (.readEvents body) :=
  fun w m e => fits_of_body _ body m (by simpa [Instr.wellFormed, Instr.requestBody] using w) e

theorem RequestFits.readStatus (body : List Byte) : RequestFits.Statement (.readStatus body) :=
  fun w m e => fits_of_body _ body m (by simpa [Instr.wellFormed, Instr.requestBody] using w) e

theorem RequestFits.clearCounters (body : List Byte) : RequestFits.Statement (.clearCounters body) :=
  fun w m e => fits_of_body _ body m (by simpa [Instr.wellFormed, Instr.requestBody] using w) e

theorem RequestFits.frameEnd (up : BitVec 32) : RequestFits.Statement (.frameEnd up) :=
  fun _ _ e => nomatch e

theorem RequestFits.rstnHeldLow : RequestFits.Statement .rstnHeldLow :=
  fun _ _ e => nomatch e

end Sys2Proof.Laws
end

