-- ==== Sys2Proof/Tests/Slice0.lean ====
section
/-!
SUPPORT. Tests of the model on the manual's own examples, one step or one operation each, and for every statement that has
hypotheses a concrete state and operands that meet them (`witness_<statement>`).
-/

namespace Sys2Proof.Tests

open Sys2Proof Sys2Proof.Machine

/-! ## Well-formed commands -/

theorem test_strap_zero_is_ill_formed : (Instr.powerOnReset 0#4).wellFormed = false ∧ (Instr.powerOnReset 1#4).wellFormed = true := by
  decide

theorem test_empty_message_is_ill_formed :
    (Instr.envelopeCheckRefusal []).wellFormed = false ∧ (Instr.envelopeCheckRefusal [0x99#8]).wellFormed = true := by decide

theorem test_body_of_62_bytes_is_ill_formed :
    (Instr.postReading (List.replicate 62 0#8)).wellFormed = false ∧ (Instr.postReading (List.replicate 61 0#8)).wellFormed = true := by
  constructor <;> simp only [Instr.wellFormed, Instr.requestBody, List.length_replicate] <;> decide

/-! ## Messages and codes -/

/-- Section 10.5: the check bytes of TAKE NOTICE and of its NONE_PENDING answer, with the register after each byte. -/
theorem test_check_bytes_of_section_10_5 :
    requestMessage .takeNotice [] = [0x62#8, 0x00#8, 0xDF#8] ∧
    answerMessage 0x62#8 .nonePending [] = [0xE2#8, 0x0B#8, 0x00#8, 0x8F#8] ∧
    crc8 [0xE2#8] = 0xA0#8 ∧ crc8 [0xE2#8, 0x0B#8] = 0x58#8 := by
  refine ⟨?_, ?_, ?_, ?_⟩ <;> decide +kernel

/-- The catalogue of R193. -/
theorem test_kind_codes : Kind.all.map Kind.code =
    [0x01#8, 0x02#8, 0x03#8, 0x04#8, 0x10#8, 0x11#8, 0x12#8, 0x13#8, 0x14#8, 0x15#8, 0x20#8, 0x21#8, 0x30#8, 0x31#8, 0x32#8, 0x33#8,
     0x34#8, 0x35#8, 0x36#8, 0x40#8, 0x41#8, 0x42#8, 0x43#8, 0x50#8, 0x51#8, 0x52#8, 0x60#8, 0x61#8, 0x62#8, 0x63#8, 0x64#8, 0x65#8] := by
  decide

/-- The status, outcome and state codes of R194. -/
theorem test_codes_of_answers :
    [Status.ok, .check, .length, .unknownKind, .role, .range, .state, .busy, .locked, .duplicateId, .noTime, .nonePending].map Status.code =
      [0, 1, 2, 3, 4, 5, 6, 7, 8, 9, 10, 11] ∧
    [EntryOutcome.filed, .clamped, .unknownMeter, .early, .outsideWindow, .late, .notNeeded, .downgrade, .upgraded, .duplicate, .replaced,
      .keptFirst].map EntryOutcome.code = [0, 1, 2, 3, 4, 5, 6, 7, 8, 9, 10, 11] ∧
    [Phase.stopped, .daytime, .collecting, .settling, .closing].map Phase.code = [0, 1, 2, 3, 4] ∧
    [NightState.idle, .opened, .queued, .evaluating, .done, .skipped].map NightState.code = [0, 1, 2, 3, 4, 5] ∧
    [WatchState.out, .learning, .quiet, .watch, .alerted, .acknowledged].map WatchState.code = [0, 1, 2, 3, 4, 5] ∧
    [Alert.none, .rising, .burst, .dataLoss, .cleared].map Alert.code = [0, 1, 2, 3, 4] ∧
    [ResultStatus.clean, .patched, .unusable, .skipped].map ResultStatus.code = [0, 1, 2, 3] ∧
    [none, some Reason.tooSparse, some .noHistory, some .noMeters, some .abandoned].map reasonCode = [0, 1, 2, 3, 4] ∧
    [Verdict.none, .normal, .excess, .burst].map Verdict.code = [0, 1, 2, 3] ∧
    [Exponent.none, .half, .one, .oneHalf].map Exponent.code = [0, 1, 2, 3] ∧
    [BaselineMode.learned, .fixed].map BaselineMode.code = [0, 1] := by decide

/-- Section 3.9: eight entries, five of them with identifiers, make a body of 58 bytes (R195). -/
theorem test_size_of_the_batch_of_section_3_9 : readingSize 8 0xE5#8 = 58 := by decide

/-- No row of the table gives bits. -/
theorem test_no_word_spells_a_command : decodeTableWord 32 0x62 = none ∧ State.reset.withFetchWord 32 0x62 = State.reset := ⟨rfl, rfl⟩

/-! ## The arithmetic on the manual's nights -/

/-- A slot of a snapshot whose cells are all GOOD. -/
def good (role : LinkRole) (volumes : List Nat) : SnapshotSlot := ⟨role, volumes.map (fun v => ⟨.good, v⟩), none⟩

/-- Section 6.8: district 5 on night 412. -/
def night412 : Snapshot :=
  { nightDay := 412, wstart := 8, wlen := 8
    params := { properties := 1800, allowance := 42, pRef := 400, n1 := .half, m := 4, tAbs := 300, tRel := 64, burst := 4, nConfirm := 3,
                gapLimit := 3, subLim := 25 }
    slots := [good .inlet [3600, 3500, 3450, 3400, 3420, 3480, 3600, 3900], good .inlet [1200, 1180, 1150, 1150, 1160, 1170, 1200, 1300],
              good .outlet [800, 790, 780, 770, 770, 780, 800, 850], good .user [600, 600, 580, 560, 560, 580, 600, 650]]
    pressure := [some 452, some 455, some 458, some 460, some 460, some 459, some 456, some 450]
    heldPressure := none, baseline := some 1480 }

theorem test_result_of_night_412 : night412.result =
    { nightDay := 412, status := .clean, reason := none, flags := ⟨false, false, false, false⟩, slotsUsed := 4, cellsSubstituted := 0
      figures := some { nf := 2494, minInterval := 9, pUsed := some 456, f := 61379, c := 2335, compared := some ⟨1480, 670, 855⟩ }
      verdict := .excess } := by decide +kernel

/-- Section 6.9.1: the same night under the other exponent codes. -/
theorem test_night_412_under_each_exponent :
    [Exponent.none, .one, .oneHalf].map (fun n =>
      let x := { night412 with params := { night412.params with n1 := n } }
      (x.factor.1, x.corrected, x.verdict)) = [(65536, 2494, .excess), (57487, 2187, .excess), (53840, 2048, .normal)] := by decide +kernel

/-- Section 6.9.2: negative flows are rounded toward minus infinity. -/
theorem test_negative_night :
    let x : Snapshot :=
      { nightDay := 0, wstart := 8, wlen := 8
        params := { properties := 400, allowance := 50, pRef := 400, n1 := .one, m := 2, tAbs := 150, tRel := 40, burst := 3, nConfirm := 3,
                    gapLimit := 3, subLim := 25 }
        slots := [good .inlet [260, 240, 230, 225, 228, 235, 250, 270], good .user (List.replicate 8 50)]
        pressure := List.replicate 8 (some 500), heldPressure := none, baseline := some (-12) }
    x.result.verdict = .normal ∧
    x.result.figures = some { nf := -24, minInterval := 11, pUsed := some 500, f := 52428, c := -20, compared := some ⟨-12, 150, -8⟩ } := by
  decide +kernel

/-- Section 6.9.3: the edges of the pressure ratio for P_ref 400. -/
theorem test_edges_of_the_pressure_ratio :
    [0, 99, 100, 400, 1600, 1601, 2000].map (fun p => (pressureRatio 400 p, pressureFactor .half (pressureRatio 400 p).1)) =
      [((262144, true), 131072), ((262144, true), 131072), ((262144, false), 131072), ((65536, false), 65536), ((16384, false), 32768),
       ((16384, true), 32768), ((16384, true), 32768)] := by decide +kernel

/-- Section 6.9.4: the thresholds T 670 and TB 2,680 at their edges. -/
theorem test_edges_of_the_verdict :
    [-500, 670, 671, 2680, 2681].map (fun x => verdictOf x 670 2680) = [.normal, .normal, .excess, .excess, .burst] := by decide

/-- R117: the formula at B 2,147,483,647 and T_rel 255 gives one more than the bound that the rule's text names (log 19). -/
theorem test_largest_threshold :
    threshold { night412.params with tAbs := 65535, tRel := 255 } 2147483647 = 2139160574 := by decide

/-- Section 5.10: district 6 with 10 of 24 cells substituted, by SUBLIM. -/
theorem test_usability_by_sublim :
    let part (filled : List Nat) (held : Nat) (role : LinkRole) : SnapshotSlot :=
      ⟨role, filled.map (fun v => ⟨.good, v⟩) ++ List.replicate (8 - filled.length) emptyCell, some held⟩
    [25, 40, 42, 100].map (fun k =>
      { night412 with
        params := { night412.params with subLim := k }
        slots := [part (List.replicate 8 800) 802 .inlet, part [] 95 .user, part [2100, 2080, 2050, 2040, 2050, 2060] 2071 .inlet] }.unusable) =
      [some .tooSparse, some .tooSparse, none, none] := by decide +kernel

/-- Section 7.2: equal figures take separate ranks. -/
theorem test_rank_of_equal_figures :
    let bl := fun k => Baseline.b { ring := [⟨1, 1350⟩, ⟨2, 1200⟩, ⟨3, 1200⟩], mode := .learned, rank := k, fixed := 0 }
    (bl 2, bl 3, bl 4) = (some 1200, some 1350, none) := by decide +kernel

/-! ## States for the witnesses -/

/-- The station at `p` holds the grant and the part takes its request. -/
def asking (p : Position) (s : State) : State :=
  { s with link := { s.link with phase := .request, holder := some (s.station p).address } }

/-- A state just after reset in which the telemetry controller may ask. -/
def desk : State := asking 0 (State.afterReset 3#4)

/-- The part in night 600 of the reset window settings, at a phase and a clock time. -/
def nightAt (phase : Phase) (clock : ClockTime) : State :=
  { State.afterReset 3#4 with
    nck := { clock := clock, divider := 0, clockSet := true, wstart := 8, wlen := 8, grace := 16, phase := phase
             nightDay := some 600, nightMark := some ⟨600, 480⟩ } }

/-- A gateway at position 1 that asks. -/
def gatewayAsks : State :=
  asking 1 ((State.afterReset 3#4).modStation 1 (fun st => { st with address := 7#4, role := some .gateway }))

/-- District 5 under a hold. -/
def held (h : Hold) (s : State) : State := s.modDistrict 5 (fun r => { r with hold := some h })

/-- District 5 watched by telemetry, with this watch. -/
def watched (w : Watch) (s : State) : State :=
  (s.modDistrict 5 (fun r => { r with inService := true })).modWatch 5 (fun _ => w)

/-- The state whose evaluation in flight is night 412 of district 5. -/
def inFlight : State :=
  { watched { state := .watch, excess := 1, gap := 0, alert := .none } (nightAt .settling ⟨600, 250⟩) with flight := some ⟨5, night412⟩ }

/-- District 5 pending at position 0 with alert RISING. -/
def noticed : State :=
  (watched { state := .alerted, excess := 3, gap := 0, alert := .rising } desk).modStation 0 (fun st => { st with pendingSet := 0x20#32 })

/-- Slot 40 bound to district 5, its cells EMPTY. -/
def metered (s : State) : State :=
  s.modSlot 40 (fun x => { x with identifier := 5502117, enabled := true, primary := some ⟨5, .outlet⟩, secondary := some ⟨6, .inlet⟩ })

/-! ## Witnesses: the step and the clock -/

theorem witness_StepRunsFrontCommand : ({ State.reset with pending := [.choice, .minuteEvent] } : State).pending = .choice :: [.minuteEvent] := rfl

/-- The clock not set; the divider counting; the last period of a minute. -/
theorem witness_IdleStepCountsCrystalPeriods :
    let counting (k : Nat) : State :=
      { nightAt .daytime ⟨600, 500⟩ with nck := { (nightAt .daytime ⟨600, 500⟩).nck with divider := k } }
    ∀ s ∈ [State.reset, counting 0, counting 1966079], s.pending = [] ∧ s.running = true ∧ s.nck.divider ≤ 1966079 := by
  decide +kernel

/-- RSTN low: a command that is no release. -/
theorem witness_PowerOnResetValues : ∀ a : BitVec 4, Instr.minuteEvent ≠ .powerOnReset a := by decide

/-- Nothing due, at an ordinary minute, at midnight and at the end of the calendar; the clock not set. -/
theorem witness_MinuteEventTakesWhatFallsDue_nothing :
    ∀ x ∈ [(nightAt .daytime ⟨600, 500⟩, (⟨600, 501⟩ : ClockTime)), (nightAt .daytime ⟨600, 1439⟩, ⟨601, 0⟩),
        (nightAt .daytime ⟨65535, 1439⟩, ⟨65536, 0⟩), (State.reset, ⟨0, 1⟩)],
      ClockLaw x.1 ∧ DistrictLaw x.1 ∧ x.1.running = true ∧
      x.2 = (if x.1.nck.clock.minute = 1439 then ⟨x.1.nck.clock.day + 1, 0⟩ else ⟨x.1.nck.clock.day, x.1.nck.clock.minute + 1⟩) ∧
      (∀ d : District, (x.1.district d).hold.map (·.expiry) ≠ some x.2) ∧ x.1.nightInProgress = false ∧
      (x.2 = x.1.windowStartOf x.2.day → x.1.eligible x.2.day = false) := by decide +kernel

/-- A window start, a window end and a grace expiry at the new clock time. -/
theorem witness_MinuteEventTakesWhatFallsDue_boundary :
    (∀ s ∈ [nightAt .daytime ⟨601, 119⟩, nightAt .collecting ⟨600, 239⟩, nightAt .settling ⟨600, 479⟩],
      ClockLaw s ∧ DistrictLaw s ∧ s.running = true ∧ s.nck.clockSet = true ∧ s.nck.grace ≠ 0) ∧
    (nightAt .daytime ⟨601, 119⟩).windowStartOf 601 = ⟨601, 120⟩ ∧ (nightAt .daytime ⟨601, 119⟩).eligible 601 = true ∧
    (nightAt .collecting ⟨600, 239⟩).nck.nightDay.map (nightAt .collecting ⟨600, 239⟩).windowEndOf = some ⟨600, 240⟩ ∧
    (nightAt .settling ⟨600, 479⟩).nck.nightDay.map (nightAt .settling ⟨600, 479⟩).graceExpiryOf = some ⟨600, 480⟩ ∧
    (nightAt .collecting ⟨600, 239⟩).nightInProgress = true ∧ (nightAt .settling ⟨600, 479⟩).nightInProgress = true := by
  refine ⟨?_, ?_, ?_, ?_, ?_, ?_, ?_⟩ <;> decide +kernel

/-- One hold's expiry at the new clock time. -/
theorem witness_MinuteEventTakesWhatFallsDue_hold :
    let s := held ⟨3, ⟨600, 501⟩⟩ (nightAt .daytime ⟨600, 500⟩)
    ClockLaw s ∧ DistrictLaw s ∧ s.nightInProgress = false ∧ (s.district 5).hold.map (·.expiry) = some ⟨600, 501⟩ ∧
    (∀ e : District, e ≠ 5 → (s.district e).hold.map (·.expiry) ≠ some ⟨600, 501⟩) := by
  refine ⟨?_, ?_, ?_, ?_, ?_⟩ <;> decide +kernel

theorem witness_WindowStartOpensTheNight :
    let s := nightAt .daytime ⟨601, 120⟩
    s.running = true ∧ s.nck.phase = .daytime ∧ s.nck.clock = s.windowStartOf 601 ∧ s.eligible 601 = true := by decide

/-- With district 5 QUEUED in the old night and without a meter in the new one, its gap count two results short of its gap limit. -/
theorem witness_WindowStartAbandonsTheOldNight :
    let s := (watched { state := .quiet, excess := 0, gap := 1, alert := .none } (nightAt .closing ⟨601, 120⟩)).setNightState 5 .queued
    s.running = true ∧ s.nck.phase = .closing ∧ s.nck.nightDay = some 600 ∧ s.nck.clock = s.windowStartOf 601 ∧ s.eligible 601 = true ∧
    (s.district 5).nightState = .queued ∧ (s.district 5).inService = true ∧ (∀ i : SlotIndex, (s.slot i).enabled = false) ∧
    (s.district 5).params.gapLimit = (s.watch 5).gap + 2 := by decide +kernel

theorem witness_WindowEndQueuesCompleteDistricts :
    ∀ ph ∈ [Phase.collecting, .settling], let s := nightAt ph ⟨600, 240⟩
    s.running = true ∧ s.nck.nightDay = some 600 ∧ s.nck.clock = s.windowEndOf 600 := by decide

theorem witness_GraceExpiryQueuesOpenDistricts :
    ∀ ph ∈ [Phase.settling, .closing], let s := nightAt ph ⟨600, 480⟩
    s.running = true ∧ s.nck.nightDay = some 600 ∧ s.nck.clock = s.graceExpiryOf 600 := by decide

/-- A hold at its expiry time; a telemetry controller that asks about district 5. -/
theorem witness_HoldsAreGivenReleasedAndExpire :
    let s := held ⟨0, ⟨0, 0⟩⟩ desk
    s.running = true ∧ (s.district 5).hold = some ⟨0, ⟨0, 0⟩⟩ ∧ ClockTime.NotAfter ⟨0, 0⟩ s.nck.clock ∧ s.Asks 0 .telemetry ∧
    (0x05#8).toNat = (5 : District).1 := by decide +kernel

/-! ## Witnesses: the Evaluation Unit and the arithmetic -/

/-- Every entry held; an unheld entry behind a held one. -/
theorem witness_ChoiceTakesTheOldestUnheld :
    let s : State := { held ⟨0, ⟨601, 0⟩⟩ (nightAt .settling ⟨600, 250⟩) with
      choiceDue := true, queue := [⟨5, .complete⟩, ⟨6, .complete⟩, ⟨9, .grace⟩] }
    let alone : State := { s with queue := [⟨5, .complete⟩] }
    s.running = true ∧ s.choiceDue = true ∧ s.flight = none ∧ s.nck.nightDay = some 600 ∧
    (∀ x ∈ [QueueEntry.mk 5 .complete], (s.district x.district).hold ≠ none) ∧ alone.queue = [⟨5, .complete⟩] ∧
    s.queue = [⟨5, .complete⟩] ++ ⟨6, .complete⟩ :: [⟨9, .grace⟩] ∧ (s.queue.map (·.district)).Nodup ∧ (s.district 6).hold = none := by
  decide +kernel

theorem witness_CompletionPublishesAndLearns : inFlight.running = true ∧ inFlight.flight = some ⟨5, night412⟩ := ⟨rfl, rfl⟩

theorem witness_CompletionMovesTheWatchAndTellsTheStations :
    inFlight.running = true ∧ inFlight.flight = some ⟨5, night412⟩ ∧ NoticeLaw inFlight ∧ (inFlight.watch 5).state ≠ .out ∧
    WatchConsistent (inFlight.district 5).params.nConfirm (inFlight.watch 5) :=
  ⟨rfl, rfl, by decide +kernel, by decide +kernel, by decide +kernel⟩

theorem witness_NightFlowIsTheLeastMean :
    (1 ≤ night412.params.m ∧ night412.params.m ≤ night412.wlen) ∧ (1 ≤ 4 ∧ 4 ≤ ({ night412 with wlen := 4 } : Snapshot).wlen) := by decide

/-- The ends of the range of Q. -/
theorem witness_IsqrtIsTheIntegerSquareRoot : ∀ q ∈ [16384, 262144], 16384 ≤ q ∧ q ≤ 262144 := by decide

/-- A usable and an unusable snapshot. -/
theorem witness_ResultStatusFollowsUsability :
    night412.result.reason = none ∧ { night412 with slots := [] }.result.reason = some .noMeters := by decide +kernel

/-- A cell pressure, the held pressure, and no pressure. -/
theorem witness_PressureRatioIsClamped :
    ∀ x ∈ [night412, { night412 with pressure := [none], heldPressure := some 2000 }, { night412 with pressure := [] }],
      1 ≤ x.params.pRef ∧ x.params.pRef ≤ 2000 ∧ (∀ v ∈ x.pressure, v.all (fun p => decide (p ≤ 2000)) = true) ∧
      x.heldPressure.all (fun p => decide (p ≤ 2000)) = true := by decide

/-- A result with figures; the ends of Q; a pressure below and one above the reference. -/
theorem witness_PressureFactorStaysInRange :
    night412.result.figures.isSome = true ∧ (16384 ≤ 16384 ∧ 16384 ≤ 262144 ∧ 262144 ≤ 262144) ∧ (2000 ≤ 2000 ∧ 1999 < 2000) ∧
    (1 ≤ 1 ∧ 1 < 2 ∧ 2000 ≤ 2000) := by decide +kernel

/-- With a baseline, at the ends of the 32-bit range too, and without one. -/
theorem witness_FiguresAndVerdict :
    ∀ b ∈ [some 1480, some (-2147483648), some 2147483647, none],
      let x : Snapshot := { night412 with baseline := b }
      x.result.figures = some x.figures ∧ ParamsInRange x.wlen x.params ∧
      x.baseline.all (fun b => decide (-2147483648 ≤ b ∧ b ≤ 2147483647)) = true := by decide +kernel

/-- FIXED; LEARNED with too few entries; LEARNED with as many as the rank. -/
theorem witness_BaselineIsTheRankedFigure :
    let ring : List RingEntry := [⟨1, 1200⟩, ⟨2, 1350⟩]
    (1 ≤ (Baseline.mk ring .fixed 1 5).rank ∧ (Baseline.mk ring .fixed 1 5).mode = .fixed) ∧
    (1 ≤ (Baseline.mk ring .learned 3 5).rank ∧ (Baseline.mk ring .learned 3 5).mode = .learned ∧ ring.length < 3) ∧
    (1 ≤ (Baseline.mk ring .learned 2 5).rank ∧ (Baseline.mk ring .learned 2 5).mode = .learned ∧ 2 ≤ ring.length) := by decide

/-! ## Witnesses: the link -/

/-- FREE with a fairness hold at each of its two counts. -/
theorem witness_ContentionIsJudged :
    let s (k : Nat) : State := { State.reset with link := { State.reset.link with fairness := some ⟨3#4, k⟩ } }
    (s 0).running = true ∧ (s 0).link.phase = .free ∧ (s 0).link.fairness = some ⟨3#4, 0⟩ ∧
    (s 1).link.phase = .free ∧ (s 1).link.fairness = some ⟨3#4, 1⟩ := ⟨rfl, rfl, rfl, rfl, rfl⟩

theorem witness_EnvelopeRefusalIsAnswered : desk.running = true ∧ desk.link.phase = .request := ⟨rfl, rfl⟩

theorem witness_AnswerCompletionCommits :
    let s : State := { desk with link := { desk.link with phase := .trailer } }
    s.running = true ∧ s.link.phase = .trailer ∧ s.link.holder = some 3#4 := ⟨rfl, rfl, rfl⟩

theorem witness_HandshakeTimeoutEndsTheGrant :
    desk.running = true ∧ desk.link.holder = some (desk.station 0).address ∧ (desk.station 0).role ≠ none ∧
    (∀ q : Position, q ≠ 0 → (desk.station q).role ≠ none → (desk.station q).address ≠ (desk.station 0).address) := by decide

theorem witness_BreaksEndTheGrantAndAreCounted : desk.running = true ∧ desk.link.holder = some 3#4 := ⟨rfl, rfl⟩

/-- A contention; a free frame; the second trailer frame; an unmet frame, the 64th and the one before it; the second break frame; the sixteenth;
a break frame in the 64th frame of a step, a first one in a timed and in an untimed step, in each frame of TRAILER, and in FREE under a hold. -/
theorem witness_FrameEndTakesTheEventItBrings :
    let contend := 0x3FFF7FFF#32
    let quiet := 0xFFFFFFFF#32
    let broken := 0xFFFFFF00#32
    let trailer : Link := { desk.link with phase := .trailer, frames := 1 }
    let first (k : Nat) : Link := { desk.link with frames := k, breakRun := 1 }
    let answer : Link := { desk.link with phase := .answer, sendStep := .release, frames := 63 }
    let free : Link := { State.reset.link with breakRun := 15 }
    State.reset.running = true ∧ State.reset.link.phase = .free ∧ State.reset.link.fairness = none ∧
    contend.extractLsb' 0 8 ≠ 0#8 ∧ contend.getMsbD 16 = false ∧ quiet.extractLsb' 0 8 ≠ 0#8 ∧ quiet.getMsbD 16 = true ∧
    broken.extractLsb' 0 8 = 0#8 ∧ (trailer.phase = .trailer ∧ trailer.frames = 1) ∧
    ((first 63).phase = .request ∧ (first 63).recvStep = .first ∧ (first 63).frames = 63 ∧ (first 62).frames < 63 ∧ (first 62).breakRun = 1) ∧
    (answer.phase = .answer ∧ answer.sendStep = .release ∧ quiet.getMsbD 17 = true) ∧ (free.phase = .free ∧ free.breakRun = 15) ∧
    ((first 63).recvStep ≠ .byte ∧ (first 63).breakRun ≤ 1) ∧
    (desk.link.phase = .request ∧ desk.link.breakRun = 0 ∧ ¬ 63 ≤ desk.link.frames ∧ answer.breakRun = 0) ∧
    ({ desk.link with recvStep := .byte } : Link).recvStep = .byte ∧
    (trailer.breakRun = 0 ∧ ({ trailer with frames := 0 } : Link).frames = 0) ∧
    (∀ k ∈ [0, 1], let l : Link := { State.reset.link with fairness := some ⟨3#4, k⟩, breakRun := 16 }
      l.phase = .free ∧ l.breakRun ≤ 16) := by
  refine ⟨?_, ?_, ?_, ?_, ?_, ?_, ?_, ?_, ?_, ?_, ?_, ?_, ?_, ?_, ?_, ?_, ?_⟩ <;> decide +kernel

theorem witness_FramesCarryTheRequest :
    desk.running = true ∧ desk.link.phase = .request ∧ desk.link.recvStep = .first ∧ desk.link.recvBuf = [] ∧ desk.link.overLength = false ∧
    (Instr.forgetStrays []).message = some (requestMessage .forgetStrays []) ∧ [0x99#8] ≠ [] ∧
    openEnvelope ([0x99#8].take 64) (decide (64 < [0x99#8].length)) = .refused .length := by
  refine ⟨?_, ?_, ?_, ?_, ?_, ?_, ?_, ?_⟩ <;> decide +kernel

theorem witness_FramesCarryTheAnswer :
    let s : State := { desk with link := { desk.link with phase := .answer, answer := answerMessage 0x62#8 .nonePending [] } }
    s.running = true ∧ s.link.phase = .answer ∧ s.link.sendStep = .offer ∧ s.link.sendPos = 0 ∧ s.link.answer ≠ [] := by decide

theorem witness_FrameCarriesTheState : State.reset.running = true := rfl

theorem witness_EnvelopeOpensWhatItSeals : ([] : List Byte).length ≤ 61 ∧ (List.replicate 61 0#8).length ≤ 61 :=
  ⟨Nat.zero_le _, Nat.le_of_eq List.length_replicate⟩

theorem witness_CheckByteCatchesOneChangedByte : (0x00#8 : Byte) ≠ 0x01#8 := by decide

/-- Eight entries, the second with the identifier of the first, days at both sides of the base day; the layouts at ends of their ranges. -/
theorem witness_BodiesReadBack :
    let e : PackedEntry := ⟨some 5502117#32, 0, false, 95, 850#24⟩
    let es : List PackedEntry := [⟨none, 1, true, 0, 0xFFFFFF#24⟩, ⟨none, 2, false, 8, 1#24⟩, ⟨none, 3, false, 9, 2#24⟩, e, e, e, e]
    es.length ≤ 7 ∧ e.identifier ≠ none ∧
    (∀ x ∈ e :: es, x.interval.1 ≤ 95 ∧ x.identifier ≠ some 0#32 ∧ 0 ≤ x.day (412#16).toNat ∧ x.day (412#16).toNat ≤ 65535) ∧
    ParamsInRange 4 resetParams ∧
    (∀ y ∈ [RingEntry.mk 65535 2147483647, RingEntry.mk 0 (-2147483648)],
      y.nightDay ≤ 65535 ∧ -2147483648 ≤ y.figure ∧ y.figure ≤ 2147483647) := by decide

/-! ## Witnesses: requests -/

theorem desk_asks : desk.Asks 0 .telemetry := by decide

theorem gateway_asks : gatewayAsks.Asks 1 .gateway := by decide

/-- A gateway that asks for a configuration, and one that posts a pressure. -/
theorem witness_RoleWithoutRightIsRefused :
    gatewayAsks.Asks 1 .gateway ∧ (Instr.setServiceIn 5).requestKind = some .setService ∧ (Instr.setServiceIn 5).requestBody = some [5, 1] ∧
    Kind.setService ∈ [Kind.closeNight, .configureDistrict, .setService] ∧
    (Instr.postPressure []).requestKind = some .postPressure ∧ (Instr.postPressure []).requestBody = some [] := by decide

/-- A body one byte short and one of the right size that names district 32, with the clock set where the kind needs it. -/
theorem witness_RequestsOutOfFormAreRefused :
    let s := asking 0 (nightAt .daytime ⟨600, 500⟩)
    s.Asks 0 .telemetry ∧ StationRole.HoldsRight .telemetry .readWatch ∧ gatewayAsks.Asks 1 .gateway ∧
    StationRole.HoldsRight .gateway .readWatch ∧ s.nck.clockSet = true ∧ (Instr.readWatch []).requestKind = some .readWatch ∧
    (Instr.readWatch []).requestBody = some [] ∧ (Instr.readWatch [32]).requestBody = some [32] ∧ 32 ≤ ([32#8].getD 0 0).toNat := by decide

theorem witness_FirstSetTimePlacesTheClock : desk.Asks 0 .telemetry ∧ desk.nck.clockSet = false := by decide

/-- The same time, a trim within the interval, and a time back over the night mark. -/
theorem witness_SetTimeBackOrSame :
    let s := asking 0 (nightAt .daytime ⟨600, 500⟩)
    s.Asks 0 .telemetry ∧ s.nck.clockSet = true ∧ s.nck.phase ≠ .stopped ∧
    ¬ ClockTime.Before s.nck.clock ⟨600, 500⟩ ∧ ¬ ClockTime.Before s.nck.clock ⟨600, 495⟩ ∧ ¬ ClockTime.Before s.nck.clock ⟨600, 480⟩ ∧
    495 / 15 = 500 / 15 := by decide

/-- Section 11.9: from day 601 minute 300 in SETTLING to day 602 minute 130, with nothing held. -/
theorem witness_ForwardSetTakesTheEventsInOrder :
    let s : State := asking 0
      { nightAt .settling ⟨601, 300⟩ with
        nck := { (nightAt .settling ⟨601, 300⟩).nck with nightDay := some 601, nightMark := some ⟨601, 480⟩ } }
    let t : ClockTime := ⟨602, 130⟩
    let events := [((⟨601, 480⟩ : ClockTime), Instr.graceExpiry), (⟨602, 120⟩, .windowStart)]
    s.Asks 0 .telemetry ∧ ClockLaw s ∧ NightPositionLaw s ∧ s.nck.clockSet = true ∧ s.choiceDue = false ∧ ClockTime.Before s.nck.clock t ∧
    t.minute ≤ 1439 ∧ (ClockTime.Before s.nck.clock (s.windowStartOf 602) ∧ ClockTime.NotAfter (s.windowStartOf 602) t ∧ s.eligible 602 = true) ∧
    (∀ n, ClockTime.NotAfter (s.windowStartOf n) t → n ≤ 602) ∧ events.Pairwise (fun e f => ClockTime.Before e.1 f.1) ∧
    (s.windowEndOf 601, s.graceExpiryOf 601, s.windowEndOf 602, s.graceExpiryOf 602) =
      ((⟨601, 240⟩, ⟨601, 480⟩, ⟨602, 240⟩, ⟨602, 480⟩) : ClockTime × ClockTime × ClockTime × ClockTime) ∧
    allDistricts.filterMap (fun d => (s.district d).hold) = [] := by
  refine ⟨by decide, by decide +kernel, by decide +kernel, rfl, rfl, by decide, by decide, by decide, ?_, by decide, by decide, by decide +kernel⟩
  intro n h
  have h : n < 602 ∨ (n = 602 ∧ 15 * 8 ≤ 130) := h
  omega

theorem witness_SetWindowReplacesTheSettings : desk.Asks 0 .telemetry := desk_asks

/-- CLOSE NIGHT in SETTLING and outside it, also in STOPPED with no current night day. -/
theorem witness_CloseNightIsTheGraceExpiryAtOnce :
    (desk.Asks 0 .telemetry ∧ desk.nck.phase = .stopped ∧ desk.nck.nightDay = none) ∧
    ∀ ph ∈ [Phase.settling, .daytime], let s := asking 0 (nightAt ph ⟨600, 250⟩)
    s.Asks 0 .telemetry ∧ s.nck.nightDay = some 600 ∧ (s.nck.phase = .settling ↔ ph = .settling) := by decide

theorem witness_RestartKeepsWhatItDoesNotName : desk.Asks 0 .telemetry := desk_asks

theorem witness_BindMeterWritesTheSlot : desk.Asks 0 .telemetry ∧ (0xFF#8).toNat = (255 : SlotIndex).1 ∧ (0x00#8).toNat = (0 : SlotIndex).1 := by
  decide

theorem witness_MetersGoIntoAndOutOfUse :
    (metered desk).Asks 0 .telemetry ∧ (40#8).toNat = (40 : SlotIndex).1 ∧ ((metered desk).slot 40).enabled = true := by decide +kernel

theorem witness_ForgetStraysEmptiesTheList : desk.Asks 0 .telemetry ∧ gatewayAsks.Asks 1 .gateway := ⟨desk_asks, gateway_asks⟩

/-- The clock not set, and set; the two readings of a body that passes, as the part takes them: the second entry has the identifier of the first. -/
theorem witness_PostReadingExaminesInOrder :
    let s := asking 0 (nightAt .settling ⟨600, 250⟩)
    gatewayAsks.Asks 1 .gateway ∧ gatewayAsks.nck.clockSet = false ∧ s.Asks 0 .telemetry ∧ s.nck.clockSet = true ∧
    readReadings [9, 0, 0, 0, 0, 0] = .error .range ∧
    readReadings [2, 0, 0, 4, 2, 88, 8, 0, 0, 0, 1, 0, 0, 5, 137, 0, 0, 6] = .ok [⟨1, 600, 8, 5, false⟩, ⟨1, 599, 9, 6, true⟩] := by decide +kernel

/-- No enabled slot holds the identifier; slot 40 alone holds it. -/
theorem witness_EntryTestsInOrder :
    let s := metered (nightAt .settling ⟨600, 250⟩)
    (∀ j : SlotIndex, ¬ ((s.slot j).enabled = true ∧ (s.slot j).identifier = 77)) ∧
    (s.slot 40).enabled = true ∧ (s.slot 40).identifier = 5502117 ∧
    (∀ j : SlotIndex, (s.slot j).enabled = true → (s.slot j).identifier = 5502117 → j = 40) := by decide +kernel

/-- The first and the last cell of a window of 16, with a clamped entry and one that is not. -/
theorem witness_EntryMeetsItsCell :
    (8 = (nightAt .settling ⟨600, 250⟩).nck.wstart + (0 : Fin 16).1) ∧ (23 = (nightAt .settling ⟨600, 250⟩).nck.wstart + (15 : Fin 16).1) ∧
    (true = true → 1048575 = 1048575 ∧ true = true) := by decide

theorem witness_PostPressureFilesOneSample : desk.Asks 0 .telemetry ∧ (31#8).toNat = (31 : District).1 ∧ desk.nck.wlen ≤ 16 := by decide

/-- District 31 and a byte above it. -/
theorem witness_ConfigureDistrictReplacesTheParameters :
    desk.Asks 0 .telemetry ∧ (31#8).toNat = (31 : District).1 ∧ 31 < (32#8).toNat := by decide

theorem witness_SetServiceTakesOutAndPutsIn : noticed.Asks 0 .telemetry ∧ (5#8).toNat = (5 : District).1 ∧ NoticeLaw noticed := by
  decide +kernel

/-- Nine entries and none; the ends of the figures' range. -/
theorem witness_BaselineRequestsRejudgeTheWatch :
    desk.Asks 0 .telemetry ∧ (5#8).toNat = (5 : District).1 ∧
    (∀ ring ∈ [([] : List RingEntry), List.replicate 9 ⟨65535, -2147483648⟩], ring.length ≤ 9 ∧
      ∀ e ∈ ring, e.nightDay ≤ 65535 ∧ -2147483648 ≤ e.figure ∧ e.figure ≤ 2147483647) := by decide

theorem witness_AcknowledgeAndMarkRepaired :
    noticed.Asks 0 .telemetry ∧ (5#8).toNat = (5 : District).1 ∧ NoticeLaw noticed ∧
    WatchConsistent (noticed.district 5).params.nConfirm (noticed.watch 5) := by decide +kernel

/-- Position 3, and a byte above it. -/
theorem witness_SetStationRewritesTheEntry :
    desk.Asks 0 .telemetry ∧ (3#8).toNat = (3 : Position).1 ∧ 3 < (4#8).toNat := by decide

/-- An empty pending set; district 5 the only one pending. -/
theorem witness_NoticesAndEventsAreRead :
    desk.Asks 0 .telemetry ∧ NoticeLaw desk ∧ (desk.station 0).pendingSet = 0#32 ∧ noticed.Asks 0 .telemetry ∧ NoticeLaw noticed ∧
    (noticed.station 0).pendingSet.has 5 = true ∧
    (∀ e : District, (noticed.station 0).pendingSet.has e = true → (noticed.watch e).alert.urgency = (noticed.watch 5).alert.urgency ∧ 5 ≤ e) := by
  refine ⟨?_, ?_, ?_, ?_, ?_, ?_, ?_⟩ <;> decide +kernel

theorem witness_ClearCountersZeroesAllNine : desk.Asks 0 .telemetry ∧ gatewayAsks.Asks 1 .gateway := ⟨desk_asks, gateway_asks⟩

theorem witness_ReadsReportTheState :
    gatewayAsks.Asks 1 .gateway ∧ (31#8).toNat = (31 : District).1 ∧ (255#8).toNat = (255 : SlotIndex).1 := by decide

/-! ## Witnesses: the laws -/

/-- Every slot of `desk` and of `noticed` is as reset leaves it. -/
theorem slot_noticed (i : SlotIndex) : noticed.slot i = unboundSlot := by
  exact Table.get_replicate unboundSlot i

theorem directory_noticed : DirectoryLaw noticed := by
  refine ⟨fun i => ?_, fun i j h => ?_, by decide, by decide, fun x h => nomatch (show x ∈ ([] : List Stray) from h)⟩
  · rw [slot_noticed]; decide +kernel
  · rw [slot_noticed] at h; exact absurd h (by decide)

theorem witness_StepsKeepTheNight :
    let s := nightAt .settling ⟨600, 250⟩
    step s = .next s.crystalPeriod ∧ ClockLaw s ∧ NightPositionLaw s ∧ QueueLaw s ∧ ResultLaw s := by
  refine ⟨rfl, ?_, ?_, ?_, ?_⟩ <;> decide +kernel

theorem witness_StepsKeepTheWatches :
    step noticed = .next noticed ∧ ClockLaw noticed ∧ DistrictLaw noticed ∧ QueueLaw noticed ∧ WatchLaw noticed ∧ NoticeLaw noticed := by
  refine ⟨rfl, ?_, ?_, ?_, ?_, ?_⟩ <;> decide +kernel

theorem witness_StepsKeepTheLink :
    step noticed = .next noticed ∧ StationLaw noticed ∧ QueueLaw noticed ∧ DirectoryLaw noticed ∧ RingLaw noticed ∧ LinkLaw noticed :=
  ⟨rfl, by decide +kernel, by decide +kernel, directory_noticed, by decide +kernel, by decide +kernel⟩

theorem witness_StepsKeepTheStores :
    step noticed = .next noticed ∧ ClockLaw noticed ∧ ResultLaw noticed ∧ DirectoryLaw noticed ∧ RingLaw noticed ∧ PressureLaw noticed :=
  ⟨rfl, by decide +kernel, by decide +kernel, directory_noticed, by decide +kernel, by decide +kernel⟩

end Sys2Proof.Tests
end

section
/-!
PROOF. The grace expiry (R5, R9, R10): what raising a flag everywhere, joining the queue one by one, and the night-end test do,
and from these the whole effect of GRACE_EXPIRY.
-/

namespace Sys2Proof.Machine

/-! ## Every position and every district -/

theorem mem_allPositions (p : Position) : p ∈ allPositions := List.mem_finRange p

theorem nodup_allPositions : allPositions.Nodup := List.nodup_finRange 4

theorem mem_allDistricts (d : District) : d ∈ allDistricts := List.mem_finRange d

theorem nodup_allDistricts : allDistricts.Nodup := List.nodup_finRange 32

/-! ## A flag raised for every station (R168, R169) -/

/-- A position stays occupied, or free, when flags are raised. -/
theorem State.raiseAt_role (f : EventFlag) (s : State) (p q : Position) : ((s.raiseAt f p).station q).role = (s.station q).role := by
  rw [State.raiseAt_station]; split <;> rfl

/-- A flag raised at several positions reaches the occupied ones among them. -/
theorem State.raiseEach_station (f : EventFlag) (l : List Position) (hl : l.Nodup) (s : State) (q : Position) :
    (l.foldl (State.raiseAt f) s).station q =
      if q ∈ l ∧ (s.station q).role ≠ none then { s.station q with flags := (s.station q).flags ||| f.mask } else s.station q := by
  induction l generalizing s with
  | nil => simp
  | cons p l ih =>
    obtain ⟨hp, hl⟩ := List.nodup_cons.1 hl
    rw [List.foldl_cons, ih hl, State.raiseAt_role, State.raiseAt_station]
    by_cases e : q = p
    · subst e
      simp [hp, Station.occupied, Option.isSome_iff_ne_none]
    · simp [e]

/-- A flag raised at several positions leaves the noted clearing, if the note's position is an occupied one among them (R169). -/
theorem State.raiseEach_events (f : EventFlag) (l : List Position) (hl : l.Nodup) (s : State) :
    (l.foldl (State.raiseAt f) s).rqh.events = s.rqh.events.map (fun n =>
      if n.position ∈ l ∧ (s.station n.position).role ≠ none then { n with flags := n.flags &&& ~~~ f.mask } else n) := by
  induction l generalizing s with
  | nil => simp
  | cons p l ih =>
    obtain ⟨hp, hl⟩ := List.nodup_cons.1 hl
    rw [List.foldl_cons, ih hl, State.raiseAt_events, Option.map_map]
    congr 1
    funext n
    by_cases e : n.position = p
    · by_cases o : (s.station p).role = none <;> simp [e, hp, o, State.raiseAt_role, Station.occupied, Option.isSome_iff_ne_none]
    · simp [e, State.raiseAt_role]

theorem State.raiseAll_station (f : EventFlag) (s : State) (q : Position) :
    (s.raiseAll f).station q =
      if (s.station q).role = none then s.station q else { s.station q with flags := (s.station q).flags ||| f.mask } := by
  unfold State.raiseAll
  rw [State.raiseEach_station f _ nodup_allPositions]
  simp [mem_allPositions]

theorem State.raiseAll_events (f : EventFlag) (s : State) :
    (s.raiseAll f).rqh.events = s.noteAfterRaising (fun _ => f.mask) := by
  unfold State.raiseAll State.noteAfterRaising
  rw [State.raiseEach_events f _ nodup_allPositions]
  simp [mem_allPositions]

/-! ## The night-end test (R10) -/

theorem NightState.keepsNightOpen_iff (n : NightState) :
    n.keepsNightOpen = true ↔ n = .opened ∨ n = .queued ∨ n = .evaluating := by
  cases n <;> simp [NightState.keepsNightOpen]

/-- What the night-end test looks for is a district of the night that is still to be closed. -/
theorem State.any_keepsNightOpen_iff (s : State) :
    s.districts.1.any (fun r => r.nightState.keepsNightOpen) = true ↔ ∃ d : District, s.Unclosed d := by
  simp only [List.any_eq_true, Table.mem_iff, NightState.keepsNightOpen_iff]
  constructor
  · rintro ⟨_, ⟨d, rfl⟩, h⟩
    exact ⟨d, h⟩
  · rintro ⟨d, h⟩
    exact ⟨_, ⟨d, rfl⟩, h⟩

/-- In SETTLING or CLOSING the night ends exactly when no district is left to close. -/
theorem State.nightEndTest_cases (s : State) (h : s.nck.phase = .settling ∨ s.nck.phase = .closing) :
    s.nightEndTest = if ∃ d : District, s.Unclosed d then s else State.raiseAll .nightClosed { s with nck.phase := .daytime } := by
  unfold State.nightEndTest
  by_cases o : ∃ d : District, s.Unclosed d
  · rw [if_pos o, (State.any_keepsNightOpen_iff s).2 o]
    simp
  · rw [if_neg o, Bool.eq_false_iff.2 (mt (State.any_keepsNightOpen_iff s).1 o)]
    simp [h]

@[simp] theorem State.nightEndTest_district (s : State) (d : District) : s.nightEndTest.district d = s.district d := by
  rw [State.nightEndTest_frame]; rfl

/-- The whole effect of the night-end test in SETTLING or CLOSING, but for the stations. -/
theorem State.nightEndTest_eq (s : State) (h : s.nck.phase = .settling ∨ s.nck.phase = .closing) :
    s.nightEndTest = { s with
      nck.phase := if ∃ d : District, s.Unclosed d then s.nck.phase else .daytime
      stations := s.nightEndTest.stations
      rqh.events := if ∃ d : District, s.Unclosed d then s.rqh.events else s.noteAfterRaising (fun _ => 0x02#5) } := by
  rw [State.nightEndTest_cases s h]
  split
  · rfl
  · rw [State.raiseAll_frame, State.raiseAll_events]; rfl

/-- NIGHT_CLOSED reaches every occupied position when the night ends. -/
theorem State.nightEndTest_station (s : State) (h : s.nck.phase = .settling ∨ s.nck.phase = .closing) (p : Position) :
    s.nightEndTest.station p =
      if (∃ d : District, s.Unclosed d) ∨ (s.station p).role = none then s.station p
      else { s.station p with flags := (s.station p).flags ||| 0x02#5 } := by
  rw [State.nightEndTest_cases s h]
  by_cases o : ∃ d : District, s.Unclosed d
  · rw [if_pos o, if_pos (.inl o)]
  · rw [if_neg o, State.raiseAll_station]
    simp only [o, false_or]; rfl

/-! ## Districts that join the queue one after another (R83, R85) -/

/-- The districts of a list join the queue in its order. -/
def State.enqueueEach (why : QueueReason) (l : List District) (s : State) : State :=
  l.foldl (fun t d => t.enqueue d why) s

theorem State.enqueueEach_cons (why : QueueReason) (d : District) (l : List District) (s : State) :
    s.enqueueEach why (d :: l) = (s.enqueue d why).enqueueEach why l := rfl

theorem State.district_enqueue (s : State) (d e : District) (why : QueueReason) :
    (s.enqueue d why).district e = if e = d then { s.district d with nightState := .queued } else s.district e := by
  rw [State.enqueue_eq]; exact State.district_modDistrict s d e _

/-- Districts that join the queue stand behind what is queued already, and make a choice due if there is one of them and the unit is IDLE. -/
theorem State.enqueueEach_eq (why : QueueReason) (l : List District) (s : State) :
    s.enqueueEach why l = { s with
      districts := (s.enqueueEach why l).districts, queue := s.queue ++ l.map (fun d => ⟨d, why⟩)
      choiceDue := s.choiceDue || decide (l ≠ [] ∧ s.flight = none) } := by
  induction l generalizing s with
  | nil => simp [State.enqueueEach]
  | cons d l ih =>
    rw [State.enqueueEach_cons, ih, State.enqueue_eq]
    cases s.flight <;> simp

/-- Exactly the districts that join the queue become QUEUED, and nothing else of their records changes. -/
theorem State.district_enqueueEach (why : QueueReason) (l : List District) (s : State) (e : District) :
    (s.enqueueEach why l).district e = if e ∈ l then { s.district e with nightState := .queued } else s.district e := by
  induction l generalizing s with
  | nil => simp [State.enqueueEach]
  | cons d l ih =>
    rw [State.enqueueEach_cons, ih, State.district_enqueue]
    by_cases h : e = d
    · subst h; simp
    · simp [h]

/-! ## Grace expiry (R5, R9) -/

/-- The districts of a list that are OPEN. -/
def State.openAmong (s : State) (l : List District) : List District :=
  l.filter (fun d => decide ((s.district d).nightState = .opened))

/-- Each district of a list queued if it is OPEN when its turn comes: those that are OPEN at the start join, since none of them is touched before. -/
theorem State.queueByGraces_eq (l : List District) (hl : l.Nodup) (s : State) :
    l.foldl State.queueByGrace s = s.enqueueEach .grace (s.openAmong l) := by
  induction l generalizing s with
  | nil => rfl
  | cons d l ih =>
    obtain ⟨hd, hl⟩ := List.nodup_cons.1 hl
    rw [List.foldl_cons, ih hl]
    by_cases o : (s.district d).nightState = .opened
    · have queued : s.queueByGrace d = s.enqueue d .grace := if_pos o
      have others : (s.enqueue d .grace).openAmong l = s.openAmong l :=
        List.filter_congr fun e he => by
          rw [State.district_enqueue, if_neg (fun h : e = d => hd (h ▸ he))]
      have joins : s.openAmong (d :: l) = d :: s.openAmong l := List.filter_cons_of_pos (by simpa using o)
      rw [queued, others, joins, State.enqueueEach_cons]
    · have left : s.queueByGrace d = s := if_neg o
      have joins : s.openAmong (d :: l) = s.openAmong l := List.filter_cons_of_neg (by simpa using o)
      rw [left, joins]

/-- GRACE_EXPIRY, the clock standing at the grace expiry of the current night, is the event of that boundary. -/
theorem exec_graceExpiry_at (s : State) (n : Nat) (run : s.running = true) (night : s.nck.nightDay = some n)
    (clock : s.nck.clock = s.graceExpiryOf n) : exec .graceExpiry s = .next s.reachGraceExpiry := by
  have here : s.atBoundary State.graceExpiryOf = true := by simp [State.atBoundary, night, clock]
  calc exec .graceExpiry s = .next (if s.running then (if s.atBoundary State.graceExpiryOf then s.reachGraceExpiry else s) else s) := rfl
    _ = .next s.reachGraceExpiry := by rw [if_pos run, if_pos here]

/-- The state the night-end test of a grace expiry meets: every OPEN district queued, and CLOSING. -/
def State.graceQueued (s : State) : State :=
  { s.enqueueEach .grace (s.openAmong allDistricts) with nck.phase := .closing }

theorem State.closeByGrace_eq (s : State) : s.closeByGrace = s.graceQueued.nightEndTest := by
  unfold State.closeByGrace State.graceQueued
  rw [State.queueByGraces_eq _ nodup_allDistricts]

theorem State.graceQueued_eq (s : State) :
    s.graceQueued = { s with
      nck.phase := .closing, districts := s.graceQueued.districts
      queue := s.queue ++ (s.openAmong allDistricts).map (fun d => ⟨d, .grace⟩)
      choiceDue := s.choiceDue || decide (s.openAmong allDistricts ≠ [] ∧ s.flight = none) } := by
  unfold State.graceQueued; rw [State.enqueueEach_eq]

theorem State.graceQueued_district (s : State) (d : District) :
    s.graceQueued.district d =
      if (s.district d).nightState = .opened then { s.district d with nightState := .queued } else s.district d := by
  have joined : s.graceQueued.district d = (s.enqueueEach .grace (s.openAmong allDistricts)).district d := rfl
  rw [joined, State.district_enqueueEach]
  simp [State.openAmong, mem_allDistricts]

/-- The grace expiry changes, of the state before, the phase, the districts, the queue, "choice due", the stations' flags and the
note of a READ EVENTS (R9, R10, R169). -/
theorem State.closeByGrace_effect (s : State) :
    s.closeByGrace = { s with
      nck.phase := if ∃ d : District, s.closeByGrace.Unclosed d then .closing else .daytime
      districts := s.closeByGrace.districts
      queue := s.queue ++ (s.openAmong allDistricts).map (fun d => ⟨d, .grace⟩)
      choiceDue := s.choiceDue || decide (s.openAmong allDistricts ≠ [] ∧ s.flight = none)
      stations := s.closeByGrace.stations
      rqh.events := if ∃ d : District, s.closeByGrace.Unclosed d then s.rqh.events else s.noteAfterRaising (fun _ => 0x02#5) } := by
  rw [State.closeByGrace_eq]
  simp only [State.Unclosed, State.nightEndTest_district]
  rw [State.nightEndTest_eq _ (.inr rfl), State.graceQueued_eq]
  rfl

theorem State.closeByGrace_district (s : State) (d : District) :
    s.closeByGrace.district d =
      if (s.district d).nightState = .opened then { s.district d with nightState := .queued } else s.district d := by
  rw [State.closeByGrace_eq, State.nightEndTest_district, State.graceQueued_district]

theorem State.closeByGrace_station (s : State) (p : Position) :
    s.closeByGrace.station p =
      if (∃ d : District, s.closeByGrace.Unclosed d) ∨ (s.station p).role = none then s.station p
      else { s.station p with flags := (s.station p).flags ||| 0x02#5 } := by
  have same : s.graceQueued.station p = s.station p := by rw [State.graceQueued_eq]; rfl
  rw [State.closeByGrace_eq]
  simp only [State.Unclosed, State.nightEndTest_district]
  rw [State.nightEndTest_station _ (.inr rfl), same]

/-- Settles O9: the boundary is taken in SETTLING only (R5), and there it is the OPEN districts joining the queue, CLOSING, and the
night-end test (R9). -/
theorem graceExpiryQueuesOpenDistricts : Obligations.GraceExpiryQueuesOpenDistricts := by
  intro s n run night clock
  rw [exec_graceExpiry_at s n run night clock]
  refine ⟨fun other => ?_, fun settling => ?_⟩
  · rw [State.reachGraceExpiry, if_neg other]
  · rw [State.reachGraceExpiry, if_pos settling]
    exact ⟨s.closeByGrace, rfl, s.closeByGrace_effect, s.closeByGrace_district, s.closeByGrace_station⟩

end Sys2Proof.Machine
end

section
/-!
PROOF. A request of the grant holder, from its message to the offered answer (R160, R180 to R184), and what an abandoned answer
leaves of its effect (R188, R189); from these FORGET STRAYS (R35).
-/

namespace Sys2Proof.Machine

/-! ## The envelope of a request message (R183) -/

theorem kind_ofByte_code (k : Kind) : Kind.ofByte k.code = some k := by
  cases k <;> decide

/-- A request message passes the five envelope checks and yields its kind and body. -/
theorem openEnvelope_requestMessage (k : Kind) (body : List Byte) (fits : body.length ≤ 61) :
    openEnvelope (requestMessage k body) false = .request k body := by
  have size : (byte body.length).toNat = body.length :=
    (BitVec.toNat_ofNat _ _).trans (Nat.mod_eq_of_lt (by omega))
  have length : (requestMessage k body).length = body.length + 3 := Sys2Proof.Laws.requestMessage_length k body
  have checked : (requestMessage k body).getLast? = some (crc8 (requestMessage k body).dropLast) := by
    rw [requestMessage, closed, List.getLast?_concat, List.dropLast_concat]
  have kindByte : (requestMessage k body).getD 0 0 = k.code := rfl
  have lengthByte : (requestMessage k body).getD 1 0 = byte body.length := rfl
  have rest : ((requestMessage k body).drop 2).dropLast = body := List.dropLast_concat
  unfold openEnvelope
  rw [length, kindByte, lengthByte, size, kind_ofByte_code, rest]
  simp [checked]

/-! ## The requester (R160) -/

/-- The grant holder's position is the requester: no other occupied position has its address. -/
theorem State.Asks.requester {s : State} {p : Position} {r : StationRole} (asks : s.Asks p r) : s.requester = some p := by
  obtain ⟨-, -, role, holder, alone⟩ := asks
  have found : s.positionOf (s.station p).address = some p := by
    cases h : s.positionOf (s.station p).address with
    | none =>
      have absent := List.find?_eq_none.1 h p (mem_allPositions p)
      simp [Station.occupied, role] at absent
    | some q =>
      have occupant := List.find?_some h
      simp only [Station.occupied, Bool.and_eq_true, Option.isSome_iff_ne_none, decide_eq_true_eq] at occupant
      obtain ⟨occupied, sameAddress⟩ := occupant
      by_contra other
      exact alone q (fun e => other (congrArg some e)) occupied sameAddress
  rw [State.requester, holder]
  exact found

/-- The holder's request is handled by its kind's rule if the role holds the right, and refused ROLE otherwise. -/
theorem State.Asks.execute_eq {s : State} {p : Position} {r : StationRole} (asks : s.Asks p r) (k : Kind) (body : List Byte) :
    execute k s body = if mayRequest k r then handle k s p body else refuse s .role := by
  have ⟨_, _, role, _⟩ := asks
  simp only [execute, asks.requester, role]

/-! ## The answer (R184, R186) -/

/-- A request message fits the receive buffer: it is received unshortened and unmarked (R182). -/
theorem State.received_requestMessage (s : State) (k : Kind) (body : List Byte) (fits : body.length ≤ 61) :
    s.received (requestMessage k body) = { s with
      link.recvStep := .byte, link.clearFrames := 3, link.frames := 0, link.breakRun := 0,
      link.recvBuf := requestMessage k body, link.overLength := false } := by
  have length : (requestMessage k body).length ≤ 64 := by
    rw [Sys2Proof.Laws.requestMessage_length]; omega
  rw [State.received, List.take_of_length_le length, decide_eq_false (Nat.not_lt.2 length)]

/-- A reply composed on the state that has received the request is the request answered. -/
theorem State.startAnswer_received (u : State) (k : Kind) (body : List Byte) (fits : body.length ≤ 61) (st : Status) (out : List Byte) :
    ((u.received (requestMessage k body)).startAnswer k.code ⟨st, out⟩).nextFrame = u.answered k body st out := by
  rw [State.received_requestMessage u k body fits]
  rfl

/-- A request message received whole is passed to the Request Handler (R184). -/
theorem State.messageEnd_received (s : State) (k : Kind) (body : List Byte) (fits : body.length ≤ 61) :
    (s.received (requestMessage k body)).messageEnd = (s.received (requestMessage k body)).serve k body := by
  rw [State.received_requestMessage s k body fits, State.messageEnd, openEnvelope_requestMessage k body fits]

/-- A request of the holder is handled on the state that has received its message, or answered ROLE with no effect. -/
theorem State.Asks.request_eq {s : State} {p : Position} {r : StationRole} (asks : s.Asks p r) (k : Kind) (body : List Byte)
    (fits : body.length ≤ 61) :
    s.request k body =
      if mayRequest k r then
        let x := handle k (s.received (requestMessage k body)) p body
        (x.1.startAnswer k.code x.2).nextFrame
      else s.refusal k body .role := by
  have ⟨_, phase, _⟩ := asks
  have received : (s.received (requestMessage k body)).Asks p r := asks
  rw [State.request, if_pos phase, State.messageEnd_received s k body fits, State.serve, received.execute_eq]
  split
  · rfl
  · exact State.startAnswer_received s k body fits .role []

/-! ## An abandoned answer (R188, R189) -/

/-- A command taken alone, its operation running while RSTN is high. -/
theorem State.after_taken {c : Instr} {f : State → State} (h : ∀ s, exec c s = taken f s) (s : State) :
    s.after [c] = if s.running then f s else s := by
  simp only [State.after, h, taken]

/-- A row of the link leaves the stray list if its effect does. -/
theorem frameRow_strays (b : Bool) {f : State → State} (keeps : ∀ s, (f s).strays = s.strays) (s : State) :
    (frameRow b f s).strays = s.strays := by
  unfold frameRow
  split
  · exact keeps s
  · rfl

/-- A timeout touches its counter, the holder's flags, and the link's phase, holder and fairness hold with the notes. -/
theorem State.timeOut_frame (s : State) :
    s.timeOut = { s with
      counters.handshakeTimeouts := bump 65535 s.counters.handshakeTimeouts, stations := s.timeOut.stations
      link.phase := s.timeOut.link.phase, link.holder := none, link.fairness := s.timeOut.link.fairness, rqh := s.timeOut.rqh } := by
  unfold State.timeOut
  dsimp only
  split
  · rw [State.endGrant_frame, State.raiseAt_frame]
  · rw [State.endGrant_frame]

@[simp] theorem State.endGrant_strays (s : State) : s.endGrant.strays = s.strays := by rw [State.endGrant_frame]

@[simp] theorem State.timeOut_strays (s : State) : s.timeOut.strays = s.strays := by rw [State.timeOut_frame]

/-- A break that ends a grant leaves the stray list. -/
theorem State.after_breakEndsGrant_strays (s : State) : (s.after [.breakEndsGrant]).strays = s.strays := by
  rw [State.after_taken (c := .breakEndsGrant) fun _ => rfl]
  split
  · exact frameRow_strays _ (fun s => State.endGrant_strays { s with link.breakRun := 2 }) s
  · rfl

/-- A handshake timeout leaves the stray list. -/
theorem State.after_handshakeTimeout_strays (s : State) : (s.after [.handshakeTimeout]).strays = s.strays := by
  rw [State.after_taken (c := .handshakeTimeout) fun _ => rfl]
  split
  · exact frameRow_strays _ (fun s => State.timeOut_strays { s with link.breakRun := 0 }) s
  · rfl

/-! ## FORGET STRAYS (R35) -/

theorem mayRequest_forgetStrays (r : StationRole) :
    mayRequest .forgetStrays r = true ↔ r = .telemetry ∨ r = .service := by
  simp [mayRequest]

/-- An identifier heard when the stray list is empty is recorded with sighting count 1 (R34). -/
theorem sighted_nil (identifier day : Nat) : sighted [] identifier day = [⟨identifier, 1, day⟩] := rfl

theorem exec_forgetStrays (s : State) (run : s.running = true) (body : List Byte) :
    exec (.forgetStrays body) s = .next (s.request .forgetStrays body) :=
  congrArg Host.Outcome.next (if_pos run)

/-- Settles O43: the holder's request is answered by the table of rights (R160); where the role holds the right, the list is emptied with the
request (R35), and neither end of a grant touches the list. -/
theorem forgetStraysEmptiesTheList : Obligations.ForgetStraysEmptiesTheList := by
  intro s p r identifier day asks
  have ⟨run, _⟩ := asks
  rw [exec_forgetStrays s run, asks.request_eq .forgetStrays [] (Nat.zero_le _)]
  refine ⟨fun other => ?_, fun holds => ?_⟩
  · have noRight : ¬ mayRequest .forgetStrays r = true := by
      rw [mayRequest_forgetStrays]; rcases other with rfl | rfl <;> simp
    rw [if_neg noRight]
  · rw [if_pos ((mayRequest_forgetStrays r).2 holds)]
    refine ⟨State.answered { s with strays := [] } .forgetStrays [] .ok [], ?_, rfl,
      State.after_breakEndsGrant_strays _, State.after_handshakeTimeout_strays _, sighted_nil identifier day⟩
    exact congrArg _ (State.startAnswer_received { s with strays := [] } .forgetStrays [] (Nat.zero_le _) .ok [])

end Sys2Proof.Machine
end

section
/-!
PROOF. What the link holds has no part in judging a reading or a pressure sample, so a request row that posts one is its rule on the state as it
stood, and then the answer (R41, R51, R184).
-/

namespace Sys2Proof.Machine

/-! ## A request whose rule does not look at the link -/

/-- A request row whose rule makes the same of the state before and after its message was received is that rule, and then its answer. -/
theorem State.Asks.exec_handled {s : State} {p : Position} {r : StationRole} (asks : s.Asks p r) {c : Instr} {k : Kind} {body : List Byte}
    (row : ∀ t, exec c t = taken (fun u => u.request k body) t) (fits : body.length ≤ 61)
    (blind : ∀ m, handle k (s.received m) p body = ((handle k s p body).1.received m, (handle k s p body).2)) :
    exec c s = .next
      (if mayRequest k r then (handle k s p body).1.answered k body (handle k s p body).2.status (handle k s p body).2.body
      else s.refusal k body .role) := by
  have ⟨run, _⟩ := asks
  rw [row, taken, if_pos run, asks.request_eq k body fits, blind]
  congr 1
  split
  · exact State.startAnswer_received _ k body fits _ _
  · rfl

/-! ## The rules of the intake on the state that has received the message -/

theorem State.enqueue_received (s : State) (d : District) (why : QueueReason) (m : List Byte) :
    (s.received m).enqueue d why = (s.enqueue d why).received m := by
  rw [State.enqueue_eq, State.enqueue_eq]; rfl

theorem State.completionCheck_received (s : State) (d : District) (m : List Byte) :
    (s.received m).completionCheck d = (s.completionCheck d).received m := by
  have same : (s.received m).complete d = s.complete d := rfl
  unfold State.completionCheck
  rw [State.received_district, same, State.enqueue_received]
  split <;> rfl

theorem State.checkSlotDistricts_received (s : State) (sl : Slot) (m : List Byte) :
    (s.received m).checkSlotDistricts sl = (s.checkSlotDistricts sl).received m := by
  unfold State.checkSlotDistricts
  rw [State.received_nck]
  split
  · exact List.foldl_hom (State.received · m) fun t d => State.completionCheck_received t d m
  · rfl

theorem State.fileEntry_received (s : State) (i : SlotIndex) (k v : Nat) (e c : Bool) (m : List Byte) :
    (s.received m).fileEntry i k v e c = ((s.fileEntry i k v e c).1.received m, (s.fileEntry i k v e c).2) := by
  have stored (t : State) : ({ t.received m with counters.readingsStored := bump 65535 (t.received m).counters.readingsStored } : State) =
    State.received { t with counters.readingsStored := bump 65535 t.counters.readingsStored } m := rfl
  have written (f : Slot → Slot) : (s.received m).modSlot i f = (s.modSlot i f).received m := rfl
  have cell : (s.received m).cellIndex k = s.cellIndex k := rfl
  unfold State.fileEntry
  dsimp only
  rw [State.received_slot, cell, written, stored, State.checkSlotDistricts_received]
  split <;> rfl

theorem State.examine_received (s : State) (e : Entry) (m : List Byte) :
    (s.received m).examine e = ((s.examine e).1.received m, (s.examine e).2) := by
  have lookup : (s.received m).lookup e.identifier = s.lookup e.identifier := rfl
  have early : (s.received m).early e.day e.interval = s.early e.day e.interval := rfl
  have outside : (s.received m).outsideWindow e.day e.interval = s.outsideWindow e.day e.interval := rfl
  have late : (s.received m).lateForNight e.day = s.lateForNight e.day := rfl
  unfold State.examine
  rw [lookup]
  split
  · rfl
  · simp only [State.received_slot, State.received_district, early, outside, late, State.fileEntry_received]
    repeat' split
    all_goals rfl

theorem State.examineAll_received (s : State) (es : List Entry) (m : List Byte) :
    (s.received m).examineAll es = ((s.examineAll es).1.received m, (s.examineAll es).2) := by
  induction es generalizing s with
  | nil => rfl
  | cons e es ih => simp only [State.examineAll, State.examine_received, ih]

theorem postReading_received (s : State) (p : Position) (body m : List Byte) :
    postReading (s.received m) p body = ((postReading s p body).1.received m, (postReading s p body).2) := by
  unfold postReading
  rw [State.received_nck]
  split
  · rfl
  · split
    · rfl
    · simp only [State.examineAll_received]; rfl

theorem State.judgePressure_received (s : State) (d : District) (day k v : Nat) (m : List Byte) :
    (s.received m).judgePressure d day k v = ((s.judgePressure d day k v).1.received m, (s.judgePressure d day k v).2) := by
  have early : (s.received m).early day k = s.early day k := rfl
  have outside : (s.received m).outsideWindow day k = s.outsideWindow day k := rfl
  have late : (s.received m).lateForNight day = s.lateForNight day := rfl
  unfold State.judgePressure
  rw [State.received_district, early, outside, late]
  dsimp only
  repeat' split
  all_goals rfl

theorem postPressure_received (s : State) (p : Position) (body m : List Byte) :
    postPressure (s.received m) p body = ((postPressure s p body).1.received m, (postPressure s p body).2) := by
  unfold postPressure
  rw [State.received_nck]
  simp only [State.judgePressure_received]
  repeat' split
  all_goals rfl

/-! ## The two rows -/

theorem exec_postReading {s : State} {p : Position} {r : StationRole} (asks : s.Asks p r) (body : List Byte) (fits : body.length ≤ 61) :
    exec (.postReading body) s = .next
      (if mayRequest .postReading r then
        (postReading s p body).1.answered .postReading body (postReading s p body).2.status (postReading s p body).2.body
      else s.refusal .postReading body .role) :=
  asks.exec_handled (k := .postReading) (fun _ => rfl) fits (postReading_received s p body)

theorem exec_postPressure {s : State} {p : Position} {r : StationRole} (asks : s.Asks p r) (body : List Byte) (fits : body.length ≤ 61) :
    exec (.postPressure body) s = .next
      (if mayRequest .postPressure r then
        (postPressure s p body).1.answered .postPressure body (postPressure s p body).2.status (postPressure s p body).2.body
      else s.refusal .postPressure body .role) :=
  asks.exec_handled (k := .postPressure) (fun _ => rfl) fits (postPressure_received s p body)

end Sys2Proof.Machine
end

section
/-!
PROOF. The tests of a reading entry and of a pressure sample (R44 to R47, R52), with the stray list (R34), as the manual words them.
-/

namespace Sys2Proof.Machine

theorem bump_eq_min_succ (limit n : Nat) : bump limit n = min limit (n + 1) := by
  unfold bump; split <;> omega

/-! ## Links and lookup (R22, R30) -/

/-- A slot is linked to exactly the districts that its links name. -/
theorem Slot.linkedTo_iff (sl : Slot) (d : District) : sl.linkedTo d = true ↔ sl.Names d := by
  unfold Slot.linkedTo Slot.roleFor Slot.Names
  cases sl.primary with
  | none => cases sl.secondary <;> simp
  | some l =>
    by_cases h : l.district = d
    · simp [h]
    · cases sl.secondary <;> simp [h]

theorem Slot.mem_districtsInOrder (sl : Slot) (d : District) : d ∈ sl.districtsInOrder ↔ sl.Names d := by
  rw [Slot.districtsInOrder, List.mem_filter, Slot.linkedTo_iff]
  exact and_iff_right (mem_allDistricts d)

/-- No slot is found exactly where no enabled slot holds the identifier. -/
theorem State.lookup_eq_none (s : State) (identifier : Nat) :
    s.lookup identifier = none ↔ ∀ j : SlotIndex, ¬ ((s.slot j).enabled = true ∧ (s.slot j).identifier = identifier) := by
  simp [State.lookup, List.find?_eq_none]

/-- The one enabled slot that holds the identifier is the one found. -/
theorem State.lookup_eq_some {s : State} {identifier : Nat} {i : SlotIndex} (enabled : (s.slot i).enabled = true)
    (holds : (s.slot i).identifier = identifier)
    (alone : ∀ j : SlotIndex, (s.slot j).enabled = true → (s.slot j).identifier = identifier → j = i) :
    s.lookup identifier = some i := by
  cases found : s.lookup identifier with
  | none => exact absurd ⟨enabled, holds⟩ ((s.lookup_eq_none identifier).1 found i)
  | some j =>
    have has := List.find?_some found
    rw [Bool.and_eq_true, decide_eq_true_eq] at has
    rw [alone j has.1 has.2]

/-! ## The stray list (R34) -/

/-- A sighting moves its identifier to the end of the list, with its count one higher, or enters it, the oldest of eight giving way. -/
theorem sighted_eq (strays : List Stray) (identifier day : Nat) :
    sighted strays identifier day =
      (match strays.filter (fun x => decide (x.identifier = identifier)) with
       | _ :: _ => strays.filter (fun x => decide (x.identifier ≠ identifier))
       | [] => if strays.length < 8 then strays else strays.tail) ++
      [⟨identifier, match strays.filter (fun x => decide (x.identifier = identifier)) with
                    | x :: _ => min 255 (x.count + 1)
                    | [] => 1, day⟩] := by
  unfold sighted
  rw [← List.head?_filter]
  cases strays.filter (fun x => decide (x.identifier = identifier)) with
  | nil => simp
  | cons x _ => simp [bump_eq_min_succ]

/-! ## The tests (R45 to R47, R52) -/

theorem State.early_iff (s : State) (day k : Nat) :
    s.early day k = true ↔ ¬ s.IntervalEnded day k ∨ s.nck.nightDay.any (fun n => decide (n < day)) = true := by
  unfold State.early
  rw [Bool.or_eq_true, Bool.not_eq_true', decide_eq_false_iff_not]
  cases s.nck.nightDay <;> rfl

theorem State.outsideWindow_iff (s : State) (day k : Nat) :
    s.outsideWindow day k = true ↔ s.nck.nightDay = some day ∧ (k < s.nck.wstart ∨ s.nck.wstart + s.nck.wlen ≤ k) := by
  simp [State.outsideWindow]

theorem State.lateForNight_iff (s : State) (day : Nat) :
    s.lateForNight day = true ↔
      s.nck.nightDay = none ∨ s.nck.nightDay.any (fun n => decide (day < n)) = true ∨ s.nightInProgress = false := by
  unfold State.lateForNight
  cases s.nck.nightDay <;> simp

theorem NightState.acceptsReadings_iff (n : NightState) : n.acceptsReadings = true ↔ n = .opened ∨ n = .queued := by
  cases n <;> simp [NightState.acceptsReadings]

theorem NightState.closed_iff (n : NightState) : n.closed = true ↔ n = .evaluating ∨ n = .done := by
  cases n <;> simp [NightState.closed]

/-- Some district of the slot is in a night state that passes the test. -/
theorem State.any_slotStates_iff (s : State) (sl : Slot) (test : NightState → Bool) :
    (sl.districtsInOrder.map (fun d => (s.district d).nightState)).any test = true ↔
      ∃ d : District, sl.Names d ∧ test (s.district d).nightState = true := by
  simp only [List.any_map, List.any_eq_true, Slot.mem_districtsInOrder, Function.comp]

/-- An entry whose identifier no enabled slot holds is a sighting. -/
theorem State.examine_of_unknown {s : State} {e : Entry} (unknown : s.lookup e.identifier = none) :
    s.examine e =
      ({ s with strays := sighted s.strays e.identifier s.nck.clock.day
                counters.unknownMeters := bump 65535 s.counters.unknownMeters }, .unknownMeter) := by
  unfold State.examine
  rw [unknown]

/-- An entry of slot `i` takes its tests in order, and meets its cell with its volume clamped if it passes them. -/
theorem State.examine_of_found {s : State} {e : Entry} {i : SlotIndex} (found : s.lookup e.identifier = some i) :
    s.examine e =
      let accepts := ∃ d : District, (s.slot i).Names d ∧ ((s.district d).nightState = .opened ∨ (s.district d).nightState = .queued)
      let closed := ∃ d : District, (s.slot i).Names d ∧ ((s.district d).nightState = .evaluating ∨ (s.district d).nightState = .done)
      if ¬ s.IntervalEnded e.day e.interval ∨ s.nck.nightDay.any (fun n => decide (n < e.day)) = true then (s, .early)
      else if s.nck.nightDay = some e.day ∧ (e.interval < s.nck.wstart ∨ s.nck.wstart + s.nck.wlen ≤ e.interval) then (s, .outsideWindow)
      else if s.nck.nightDay = none ∨ s.nck.nightDay.any (fun n => decide (e.day < n)) = true ∨ s.nightInProgress = false ∨
          (¬ accepts ∧ closed) then
        ({ s with counters.readingsLate := bump 65535 s.counters.readingsLate }, .late)
      else if ¬ accepts then (s, .notNeeded)
      else if e.volume ≤ 1048575 then s.fileEntry i e.interval e.volume e.estimated false
      else s.fileEntry i e.interval 1048575 true true := by
  have clamp : decide (1048575 < e.volume) = !decide (e.volume ≤ 1048575) := by rw [← decide_not, decide_eq_decide]; omega
  have negated (b : Bool) : (!b) = true ↔ ¬ b = true := by simp
  unfold State.examine
  rw [found]
  simp only [State.early_iff, State.outsideWindow_iff, Bool.or_eq_true, Bool.and_eq_true, negated,
    State.lateForNight_iff, State.any_slotStates_iff, NightState.acceptsReadings_iff, NightState.closed_iff, or_assoc, clamp]
  by_cases small : e.volume ≤ 1048575 <;> simp [small]

/-- Settles O45: the lookup finds no slot, or the one slot that the hypotheses name; then the tests are those of `State.examine_of_found`. -/
theorem entryTestsInOrder : Obligations.EntryTestsInOrder := by
  intro s e i
  refine ⟨fun unknown => ?_, fun enabled holds alone => ?_⟩
  · have sighting := State.examine_of_unknown ((s.lookup_eq_none e.identifier).2 unknown)
    rw [sighted_eq, bump_eq_min_succ] at sighting
    exact sighting
  · rw [State.examine_of_found (State.lookup_eq_some enabled holds alone), bump_eq_min_succ]
    dsimp only
    split_ifs <;> rfl

end Sys2Proof.Machine
end

section
/-!
PROOF. The cell rules and the completion checks after a stored entry (R43, R48 to R50, R54, R55).
-/

namespace Sys2Proof

/-- Writing back what a table holds leaves it. -/
theorem Table.set_get {n : Nat} {α : Type} (t : Table n α) (i : Fin n) : t.set i (t.get i) = t := by
  apply Table.ext_get
  intro j
  rw [Table.get_set]
  split
  next h => rw [h]
  next => rfl

end Sys2Proof

namespace Sys2Proof.Machine

/-! ## Completion checks made one after another (R54, R55) -/

theorem Cell.filled_iff (c : Cell) : c.filled = true ↔ c.state ≠ .empty := decide_eq_true_iff

/-- The first cells of a row are all filled exactly where each cell before the limit is. -/
theorem all_take_filled_iff (cells : Table 16 Cell) (limit : Nat) :
    (cells.1.take limit).all Cell.filled = true ↔ ∀ c : Fin 16, c.1 < limit → (cells.get c).state ≠ .empty := by
  simp only [List.all_eq_true, List.mem_take_iff_getElem, Cell.filled_iff, cells.2]
  constructor
  · intro h c below
    exact h _ ⟨c.1, lt_min below c.2, rfl⟩
  · rintro h _ ⟨k, bound, rfl⟩
    exact h ⟨k, (lt_min_iff.1 bound).2⟩ (lt_min_iff.1 bound).1

theorem State.complete_iff (s : State) (d : District) : s.complete d = true ↔ s.IsComplete d := by
  unfold State.complete State.enabledLinked
  rw [List.all_eq_true]
  simp only [all_take_filled_iff, List.mem_filter, Table.mem_iff, Bool.and_eq_true, Slot.linkedTo_iff]
  constructor
  · intro h i enabled names
    exact h (s.slot i) ⟨⟨i, rfl⟩, enabled, names⟩
  · rintro h _ ⟨⟨i, rfl⟩, enabled, names⟩
    exact h i enabled names

/-- The districts of a list that are OPEN and complete. -/
def State.completeAmong (s : State) (l : List District) : List District :=
  l.filter (fun d => decide ((s.district d).nightState = .opened ∧ s.IsComplete d))

/-- Completion checks of a list: those districts join that are OPEN and complete at the start, since no check touches a cell or another district. -/
theorem State.completionChecks_eq (l : List District) (hl : l.Nodup) (s : State) :
    l.foldl State.completionCheck s = s.enqueueEach .complete (s.completeAmong l) := by
  induction l generalizing s with
  | nil => rfl
  | cons d l ih =>
    obtain ⟨hd, hl⟩ := List.nodup_cons.1 hl
    have check : (decide ((s.district d).nightState = .opened) && s.complete d) = true ↔
        (s.district d).nightState = .opened ∧ s.IsComplete d := by
      rw [Bool.and_eq_true, decide_eq_true_eq, State.complete_iff]
    rw [List.foldl_cons, ih hl]
    by_cases h : (s.district d).nightState = .opened ∧ s.IsComplete d
    · have queued : s.completionCheck d = s.enqueue d .complete := if_pos (check.2 h)
      have grid (e : District) : (s.enqueue d .complete).IsComplete e ↔ s.IsComplete e := by rw [State.enqueue_eq]; rfl
      have others : (s.enqueue d .complete).completeAmong l = s.completeAmong l :=
        List.filter_congr fun e he => by
          rw [State.district_enqueue, if_neg (fun h : e = d => hd (h ▸ he)), decide_eq_decide, grid]
      have joins : s.completeAmong (d :: l) = d :: s.completeAmong l := List.filter_cons_of_pos (decide_eq_true h)
      rw [queued, others, joins, State.enqueueEach_cons]
    · have left : s.completionCheck d = s := if_neg (mt check.1 h)
      have joins : s.completeAmong (d :: l) = s.completeAmong l := List.filter_cons_of_neg (by simpa using h)
      rw [left, joins]

/-- The districts of a slot join the queue in increasing order, if the phase is SETTLING and they are OPEN and complete. -/
theorem State.checkSlotDistricts_eq (s : State) (sl : Slot) :
    s.checkSlotDistricts sl = s.enqueueEach .complete (allDistricts.filter (fun d =>
      decide (s.nck.phase = .settling ∧ sl.Names d ∧ (s.district d).nightState = .opened ∧ s.IsComplete d))) := by
  unfold State.checkSlotDistricts
  by_cases settling : s.nck.phase = .settling
  · rw [if_pos settling, Slot.districtsInOrder, State.completionChecks_eq _ (nodup_allDistricts.filter _), State.completeAmong,
      List.filter_filter]
    congr 2
    funext d
    rw [Bool.eq_iff_iff]
    simp only [settling, Bool.and_eq_true, decide_eq_true_eq, Slot.linkedTo_iff]
    tauto
  · rw [if_neg settling, List.filter_eq_nil_iff.2 fun d _ => by simp [settling]]
    rfl

/-! ## The cell rules (R43, R48) -/

/-- The outcome of an entry at its cell, clamp mark included. -/
def Cell.outcome (cell : Cell) (protect estimated clamped : Bool) (volume : Nat) : EntryOutcome :=
  if cell.state = .empty then (if clamped then .clamped else .filed)
  else if cell.state = .good ∧ estimated = true then .downgrade
  else if cell.state = .estimated ∧ estimated = false then .upgraded
  else if cell.volume = volume then .duplicate
  else if protect then .keptFirst else if clamped then .clamped else .replaced

/-- What an entry writes into a cell that takes it. -/
def incomingCell (estimated : Bool) (volume : Nat) : Cell := ⟨if estimated then .estimated else .good, volume⟩

/-- The rows of the cell rules: an EMPTY cell, a downgrade, an upgrade, and a cell of the entry's own quality. -/
theorem Cell.meets_cases (cell : Cell) (estimated : Bool) (volume : Nat) :
    cell.state = .empty ∨ (cell.state = .good ∧ estimated = true) ∨ (cell.state = .estimated ∧ estimated = false) ∨
      cell.state = (incomingCell estimated volume).state := by
  cases cell.state <;> cases estimated <;> simp [incomingCell]

theorem Cell.offered_empty {cell : Cell} (h : cell.state = .empty) (protect estimated : Bool) (volume : Nat) :
    cell.offered protect estimated volume = (incomingCell estimated volume, .filed) := by
  simp only [Cell.offered, h]; rfl

theorem Cell.offered_downgrade {cell : Cell} (h : cell.state = .good) (protect : Bool) (volume : Nat) :
    cell.offered protect true volume = (cell, .downgrade) := by
  simp only [Cell.offered, h]

theorem Cell.offered_upgrade {cell : Cell} (h : cell.state = .estimated) (protect : Bool) (volume : Nat) :
    cell.offered protect false volume = (incomingCell false volume, .upgraded) := by
  simp only [Cell.offered, h]; rfl

theorem Cell.offered_same {cell : Cell} {estimated : Bool} {volume : Nat} (h : cell.state = (incomingCell estimated volume).state)
    (protect : Bool) :
    cell.offered protect estimated volume =
      if cell.volume = volume then (cell, .duplicate)
      else if protect then (cell, .keptFirst) else (incomingCell estimated volume, .replaced) := by
  cases estimated <;> (simp only [Cell.offered, h]; rfl)

theorem Cell.outcome_same {cell : Cell} {estimated : Bool} {volume : Nat} (h : cell.state = (incomingCell estimated volume).state)
    (protect clamped : Bool) :
    cell.outcome protect estimated clamped volume =
      if cell.volume = volume then .duplicate else if protect then .keptFirst else if clamped then .clamped else .replaced := by
  cases estimated <;> simp [Cell.outcome, h, incomingCell]

/-- The clamp mark does not decide whether an entry is stored. -/
theorem EntryOutcome.stored_marked (o : EntryOutcome) (clamped : Bool) : (o.marked clamped).stored = o.stored := by
  cases o <;> cases clamped <;> rfl

/-- The clamp mark leaves the outcome of an entry that is not stored. -/
theorem EntryOutcome.marked_of_not_stored {o : EntryOutcome} (h : ¬ o.stored = true) (clamped : Bool) : o.marked clamped = o := by
  cases o <;> simp_all [EntryOutcome.stored, EntryOutcome.marked]

theorem EntryOutcome.stored_iff (o : EntryOutcome) :
    o.stored = true ↔ o ∈ [EntryOutcome.filed, .clamped, .upgraded, .replaced] := by
  cases o <;> simp [EntryOutcome.stored]

/-- What a met cell and its meter counters come to, in terms of the outcome with the clamp mark. -/
theorem Cell.offered_spec (cell : Cell) (protect estimated clamped : Bool) (volume : Nat) :
    let offered := cell.offered protect estimated volume
    let outcome := cell.outcome protect estimated clamped volume
    offered.2.marked clamped = outcome ∧
    offered.1 = (if outcome.stored then incomingCell estimated volume else cell) ∧
    (offered.2 = .duplicate ↔ outcome = .duplicate) ∧
    ((offered.2 = .replaced ∨ offered.2 = .keptFirst) ↔
      outcome = .keptFirst ∨ (cell.state = (incomingCell estimated volume).state ∧ cell.volume ≠ volume)) := by
  intro offered outcome
  rcases cell.meets_cases estimated volume with h | ⟨h, rfl⟩ | ⟨h, rfl⟩ | h
  · cases clamped <;> cases estimated <;>
      simp [offered, outcome, Cell.offered_empty h, Cell.outcome, h, EntryOutcome.marked, EntryOutcome.stored, incomingCell]
  · simp [offered, outcome, Cell.offered_downgrade h, Cell.outcome, h, EntryOutcome.marked, EntryOutcome.stored, incomingCell]
  · simp [offered, outcome, Cell.offered_upgrade h, Cell.outcome, h, EntryOutcome.marked, EntryOutcome.stored, incomingCell]
  · simp only [offered, outcome, Cell.offered_same h, Cell.outcome_same h]
    split_ifs <;> simp_all [EntryOutcome.marked, EntryOutcome.stored]

/-! ## An entry filed (R48 to R50) -/

/-- The slot after an entry has met cell `c`: cell and meter counters (R32, R48). -/
def Slot.afterEntry (sl : Slot) (c : Fin 16) (estimated clamped : Bool) (volume : Nat) : Slot :=
  let cell := sl.cells.get c
  let outcome := cell.outcome sl.protect estimated clamped volume
  { sl with
    cells := if outcome.stored then sl.cells.set c (incomingCell estimated volume) else sl.cells
    duplicates := if outcome = .duplicate then min 255 (sl.duplicates + 1) else sl.duplicates
    conflicts := if outcome = .keptFirst ∨ (cell.state = (incomingCell estimated volume).state ∧ cell.volume ≠ volume) then
      min 255 (sl.conflicts + 1) else sl.conflicts }

theorem Slot.filedWith_offered (sl : Slot) (c : Fin 16) (estimated clamped : Bool) (volume : Nat) :
    sl.filedWith c ((sl.cells.get c).offered sl.protect estimated volume).1 ((sl.cells.get c).offered sl.protect estimated volume).2 =
      sl.afterEntry c estimated clamped volume := by
  obtain ⟨-, cell, duplicate, conflict⟩ := (sl.cells.get c).offered_spec sl.protect estimated clamped volume
  unfold Slot.filedWith Slot.afterEntry
  simp only [duplicate, conflict, bump_eq_min_succ]
  rw [cell, apply_ite (sl.cells.set c), Table.set_get]

/-- The state after an entry has met cell `c` of slot `i`, before any completion check: the slot and the stored counter (R48, R50). -/
def State.afterEntry (s : State) (i : SlotIndex) (c : Fin 16) (estimated clamped : Bool) (volume : Nat) : State :=
  let outcome := ((s.slot i).cells.get c).outcome (s.slot i).protect estimated clamped volume
  { s.modSlot i (fun _ => (s.slot i).afterEntry c estimated clamped volume) with
    counters.readingsStored := if outcome.stored then min 65535 (s.counters.readingsStored + 1) else s.counters.readingsStored }

/-- The model's way to that state: the offered cell is written, and a stored entry counted. -/
theorem State.afterEntry_eq (s : State) (i : SlotIndex) (c : Fin 16) (estimated clamped : Bool) (volume : Nat) :
    let offered := ((s.slot i).cells.get c).offered (s.slot i).protect estimated volume
    let written := s.modSlot i (fun x => x.filedWith c offered.1 offered.2)
    s.afterEntry i c estimated clamped volume =
      if offered.2.stored then { written with counters.readingsStored := bump 65535 written.counters.readingsStored } else written := by
  intro offered written
  have slot : written = s.modSlot i (fun _ => (s.slot i).afterEntry c estimated clamped volume) := by
    rw [← Slot.filedWith_offered]; rfl
  have outcome : ((s.slot i).cells.get c).outcome (s.slot i).protect estimated clamped volume = offered.2.marked clamped :=
    (((s.slot i).cells.get c).offered_spec (s.slot i).protect estimated clamped volume).1.symm
  unfold State.afterEntry
  simp only [outcome, EntryOutcome.stored_marked, slot, bump_eq_min_succ]
  split <;> rfl

/-- An entry of slot `i` at its cell: after a stored entry in SETTLING the districts that it completes join the queue (R48 to R50). -/
theorem State.fileEntry_eq (s : State) (i : SlotIndex) (c : Fin 16) (volume : Nat) (estimated clamped : Bool) :
    let outcome := ((s.slot i).cells.get c).outcome (s.slot i).protect estimated clamped volume
    let filed := s.afterEntry i c estimated clamped volume
    s.fileEntry i (s.nck.wstart + c.1) volume estimated clamped =
      (filed.enqueueEach .complete (allDistricts.filter (fun d => decide (outcome.stored = true ∧ s.nck.phase = .settling ∧
        (s.slot i).Names d ∧ (s.district d).nightState = .opened ∧ filed.IsComplete d))), outcome) := by
  intro outcome filed
  have index : s.cellIndex (s.nck.wstart + c.1) = c := by
    unfold State.cellIndex
    rw [Nat.add_sub_cancel_left, Fin.ofNat_eq_cast, Fin.cast_val_eq_self]
  have marked : (((s.slot i).cells.get c).offered (s.slot i).protect estimated volume).2.marked clamped = outcome :=
    (((s.slot i).cells.get c).offered_spec (s.slot i).protect estimated clamped volume).1
  have reached := s.afterEntry_eq i c estimated clamped volume
  have sameStored := EntryOutcome.stored_marked (((s.slot i).cells.get c).offered (s.slot i).protect estimated volume).2 clamped
  rw [marked] at sameStored
  unfold State.fileEntry
  dsimp only at reached ⊢
  rw [index]
  by_cases stored : outcome.stored = true
  · rw [if_pos (sameStored ▸ stored)] at reached ⊢
    rw [← reached, marked, State.checkSlotDistricts_eq]
    simp only [stored, true_and]
    rfl
  · have unmarked := EntryOutcome.marked_of_not_stored (sameStored ▸ stored) clamped
    rw [if_neg (sameStored ▸ stored)] at reached ⊢
    rw [← reached, ← unmarked, marked, List.filter_eq_nil_iff.2 fun d _ => by simp [stored]]
    rfl

/-- Settles O46: the entry's effect is `State.fileEntry_eq`, and of the districts that join one after another `State.enqueueEach_eq` says the rest. -/
theorem entryMeetsItsCell : Obligations.EntryMeetsItsCell := by
  intro s i c interval volume estimated clamped place _
  subst place
  intro sl cell quality outcome stores slot' filed joins
  have stored : stores = outcome.stored := by
    rw [Bool.eq_iff_iff, EntryOutcome.stored_iff, decide_eq_true_iff]
  clear_value stores
  subst stored
  exact ⟨_, s.fileEntry_eq i c volume estimated clamped, filed.enqueueEach_eq .complete joins, filed.district_enqueueEach .complete joins⟩

end Sys2Proof.Machine
end

section
/-!
PROOF. POST PRESSURE (R51 to R53).
-/

namespace Sys2Proof.Machine

theorem mayRequest_postPressure (r : StationRole) :
    mayRequest .postPressure r = true ↔ r = .telemetry ∨ r = .service ∨ r = .pressure := by
  simp [mayRequest, or_assoc]

/-- A value clamped at 2,000 is the lesser of the two. -/
theorem clampedPressure_eq (value : Nat) : (if 2000 < value then 2000 else value) = min 2000 value := by
  split <;> omega

/-- The judgement of a sample, its tests as the manual words them (R52, R53). -/
theorem State.judgePressure_eq (s : State) (d : District) (day k value : Nat) :
    s.judgePressure d day k value =
      let night := (s.district d).nightState
      let c : Fin 16 := Fin.ofNat 16 (k - s.nck.wstart)
      if ¬ s.IntervalEnded day k ∨ s.nck.nightDay.any (fun n => decide (n < day)) = true then (s, .early)
      else if s.nck.nightDay = some day ∧ (k < s.nck.wstart ∨ s.nck.wstart + s.nck.wlen ≤ k) then (s, .outsideWindow)
      else if s.nck.nightDay = none ∨ s.nck.nightDay.any (fun n => decide (day < n)) = true ∨ s.nightInProgress = false ∨
          night = .evaluating ∨ night = .done then (s, .late)
      else if night = .idle ∨ night = .skipped then (s, .notNeeded)
      else ({ s with pressure := s.pressure.modify d (fun x => x.set c (some (min 2000 value))) },
        if 2000 < value then .clamped else if (s.pressure.get d).get c = none then .filed else .replaced) := by
  have rejects : (!(s.district d).nightState.acceptsReadings) = true ↔
      ((s.district d).nightState = .evaluating ∨ (s.district d).nightState = .done) ∨
        ((s.district d).nightState = .idle ∨ (s.district d).nightState = .skipped) := by
    cases (s.district d).nightState <;> simp [NightState.acceptsReadings]
  unfold State.judgePressure State.filePressure State.cellIndex
  dsimp only
  simp only [State.early_iff, State.outsideWindow_iff, Bool.or_eq_true, State.lateForNight_iff, NightState.closed_iff, or_assoc,
    Option.isNone_iff_eq_none, decide_eq_true_eq, clampedPressure_eq]
  by_cases closed : (s.district d).nightState = .evaluating ∨ (s.district d).nightState = .done
  · simp only [closed, or_true, if_true]
  · simp only [closed, rejects, false_or]

theorem postPressure_eq (s : State) (p : Position) (b y1 y0 i v1 v0 : Byte) (d : District) (named : b.toNat = d.1) :
    postPressure s p [b, y1, y0, i, v1, v0] =
      if s.nck.clockSet = false then refuse s .noTime
      else if 95 < i.toNat then refuse s .range
      else
        let judged := s.judgePressure d (y1.toNat * 256 + y0.toNat) i.toNat ((v1.toNat % 16) * 256 + v0.toNat)
        accept judged.1 [judged.2.code] := by
  have district : districtOf b = some d := by
    rw [districtOf, dif_pos (named ▸ d.2)]
    exact congrArg some (Fin.ext named)
  have value : word16 v1 v0 % 4096 = (v1.toNat % 16) * 256 + v0.toNat := by
    have := v0.isLt
    unfold word16; omega
  simp only [postPressure, readPressure, district, value, Bool.not_eq_true']
  rfl

/-- Settles O47: the row is its rule and its answer, and the rule's judgement is `State.judgePressure_eq`. -/
theorem postPressureFilesOneSample : Obligations.PostPressureFilesOneSample := by
  intro s p r b y1 y0 i v1 v0 d asks role named _
  dsimp only
  rw [exec_postPressure asks _ (by simp), if_pos ((mayRequest_postPressure r).2 role), postPressure_eq s p b y1 y0 i v1 v0 d named,
    State.judgePressure_eq]
  dsimp only
  split_ifs <;> rfl

end Sys2Proof.Machine
end

section
/-!
PROOF. POST READING: its packed body read entry by entry (R41, R185, R195), and its entries examined in list order (R42).
-/

namespace Sys2Proof.Machine

/-! ## Where an entry stands in the body (R185, R195) -/

theorem getD_drop (bytes : List Byte) (n i : Nat) : (bytes.drop n).getD i 0 = bytes.getD (n + i) 0 := by
  simp [List.getD_eq_getElem?_getD, List.getElem?_drop]

/-- An entry takes 8 bytes if it carries an identifier, else 4. -/
theorem readingSize_succ (k : Nat) (mask : Byte) :
    readingSize (k + 1) mask = readingSize k mask + if carriesIdentifier mask k then 8 else 4 := by
  unfold readingSize
  rw [List.range_succ, List.filter_append, List.length_append]
  cases h : carriesIdentifier mask k <;> simp [h] <;> omega

/-- The nearest entry from number `k` down that carries an identifier (R185). -/
def carrierOf (mask : Byte) (k : Nat) : Nat := ((List.range (k + 1)).filter (carriesIdentifier mask)).getLastD 0

theorem carrierOf_of_carries {mask : Byte} {k : Nat} (h : carriesIdentifier mask k = true) : carrierOf mask k = k := by
  unfold carrierOf
  rw [List.range_succ, List.filter_append, List.filter_cons_of_pos h, List.filter_nil, List.getLastD_concat]

theorem carrierOf_succ_of_not_carries {mask : Byte} {k : Nat} (h : ¬ carriesIdentifier mask (k + 1) = true) :
    carrierOf mask (k + 1) = carrierOf mask k := by
  unfold carrierOf
  rw [List.range_succ, List.filter_append, List.filter_cons_of_neg h, List.filter_nil, List.append_nil]

/-- The identifier of entry `k`: the four bytes behind the lead byte of the entry it is taken from. -/
def identifierAt (body : List Byte) (k : Nat) : Nat :=
  let i := readingSize (carrierOf (body.getD 1 0) k) (body.getD 1 0)
  word32 (body.getD (i + 1) 0) (body.getD (i + 2) 0) (body.getD (i + 3) 0) (body.getD (i + 4) 0)

/-- Entry `k` of a packed body, each field read at its place. -/
def rawEntryAt (body : List Byte) (k : Nat) : RawEntry :=
  let i := readingSize k (body.getD 1 0)
  let v := i + if carriesIdentifier (body.getD 1 0) k then 5 else 1
  { identifier := identifierAt body k
    day := derivedDay (word16 (body.getD 4 0) (body.getD 5 0)) (word16 (body.getD 2 0) (body.getD 3 0) / 4 ^ k % 4)
    interval := (body.getD i 0).toNat % 128
    volume := word24 (body.getD v 0) (body.getD (v + 1) 0) (body.getD (v + 2) 0)
    estimated := (body.getD i 0).msb }

/-- The running reader, standing at entry `k` with the identifier to repeat, reads from there on what stands at each entry's place. -/
theorem readEntries_eq (body : List Byte) (left k last : Nat)
    (repeated : ¬ carriesIdentifier (body.getD 1 0) k = true → last = identifierAt body k) :
    readEntries (body.getD 1 0) (word16 (body.getD 2 0) (body.getD 3 0)) (word16 (body.getD 4 0) (body.getD 5 0)) left k last
      (body.drop (readingSize k (body.getD 1 0))) = (List.range' k left).map (rawEntryAt body) := by
  induction left generalizing k last with
  | zero => rfl
  | succ left ih =>
    have own : (if carriesIdentifier (body.getD 1 0) k then
          word32 (body.getD (readingSize k (body.getD 1 0) + 1) 0) (body.getD (readingSize k (body.getD 1 0) + 2) 0)
            (body.getD (readingSize k (body.getD 1 0) + 3) 0) (body.getD (readingSize k (body.getD 1 0) + 4) 0)
        else last) = identifierAt body k := by
      split
      next carries => rw [identifierAt, carrierOf_of_carries carries]
      next repeats => exact repeated repeats
    have behind : readingSize k (body.getD 1 0) + (if carriesIdentifier (body.getD 1 0) k then 5 else 1) + 3 =
        readingSize (k + 1) (body.getD 1 0) := by
      rw [readingSize_succ]; split <;> rfl
    have after : ¬ carriesIdentifier (body.getD 1 0) (k + 1) = true → identifierAt body k = identifierAt body (k + 1) := fun repeats => by
      rw [identifierAt, identifierAt, carrierOf_succ_of_not_carries repeats]
    rw [readEntries, List.range'_succ, List.map_cons]
    simp only [getD_drop, List.drop_drop, own, behind]
    rw [ih (k + 1) (identifierAt body k) after]
    rfl

/-! ## The checks of the body (R41) -/

/-- An entry that check 5 of R41 refuses. -/
abbrev RawEntry.OutOfRange (e : RawEntry) : Prop := e.identifier = 0 ∨ 95 < e.interval ∨ e.day < 0 ∨ 65535 < e.day

/-- The entry as it is examined. -/
def RawEntry.entry (e : RawEntry) : Entry := ⟨e.identifier, e.day.toNat, e.interval, e.volume, e.estimated⟩

theorem RawEntry.checked_eq (e : RawEntry) : e.checked = if e.OutOfRange then none else some e.entry := rfl

/-- The entries pass together or not at all. -/
theorem mapM_checked_eq (es : List RawEntry) :
    es.mapM RawEntry.checked = if ∃ e ∈ es, e.OutOfRange then none else some (es.map RawEntry.entry) := by
  induction es with
  | nil => simp
  | cons e es ih =>
    rw [List.mapM_cons, ih, RawEntry.checked_eq]
    by_cases first : e.OutOfRange
    · have some_out : ∃ x ∈ e :: es, x.OutOfRange := ⟨e, List.mem_cons_self, first⟩
      rw [if_pos first, if_pos some_out]; rfl
    · have iff_rest : (∃ x ∈ e :: es, x.OutOfRange) ↔ ∃ x ∈ es, x.OutOfRange := by
        rw [List.exists_mem_cons_iff, or_iff_right first]
      simp only [if_neg first, iff_rest]
      split <;> rfl

/-- The checks 2 to 5 of R41, in their order. -/
theorem readReadings_eq (body : List Byte) :
    readReadings body =
      let count := (body.getD 0 0).toNat
      if body.length < 6 then .error .length
      else if count < 1 ∨ 8 < count then .error .range
      else if body.length ≠ readingSize count (body.getD 1 0) then .error .length
      else if ∃ k ∈ List.range count, (rawEntryAt body k).OutOfRange then .error .range
      else .ok ((List.range count).map fun k => (rawEntryAt body k).entry) := by
  rcases body with _ | ⟨n, _ | ⟨mask, _ | ⟨c1, _ | ⟨c0, _ | ⟨b1, _ | ⟨b0, rest⟩⟩⟩⟩⟩⟩
  iterate 6 rfl
  generalize whole : n :: mask :: c1 :: c0 :: b1 :: b0 :: rest = body
  have long : ¬ body.length < 6 := by simp [← whole]
  have read : readEntries mask (word16 c1 c0) (word16 b1 b0) n.toNat 0 0 rest = (List.range n.toNat).map (rawEntryAt body) := by
    rw [List.range_eq_range', ← whole]
    exact readEntries_eq (n :: mask :: c1 :: c0 :: b1 :: b0 :: rest) n.toNat 0 0 (by simp [carriesIdentifier])
  have refused : (∃ e ∈ (List.range n.toNat).map (rawEntryAt body), e.OutOfRange) ↔
      ∃ k ∈ List.range n.toNat, (rawEntryAt body k).OutOfRange := by
    simp only [List.mem_map, exists_exists_and_eq_and]
  have checked := mapM_checked_eq ((List.range n.toNat).map (rawEntryAt body))
  rw [if_congr refused rfl rfl, List.map_map] at checked
  subst whole
  have counted : (n :: mask :: c1 :: c0 :: b1 :: b0 :: rest).getD 0 0 = n := rfl
  dsimp only
  rw [if_neg long, counted, readReadings, read, checked]
  by_cases out : ∃ k ∈ List.range n.toNat, (rawEntryAt (n :: mask :: c1 :: c0 :: b1 :: b0 :: rest) k).OutOfRange
  · simp only [if_pos out]; rfl
  · simp only [if_neg out]; rfl

/-! ## The entries examined in list order (R42) -/

/-- One entry examined in the state so far, its outcome added to those so far. -/
def State.visit (a : State × List Byte) (e : Entry) : State × List Byte := ((a.1.examine e).1, a.2 ++ [(a.1.examine e).2.code])

theorem State.examineAll_eq_foldl (s : State) (es : List Entry) (before : List Byte) :
    es.foldl State.visit (s, before) = ((s.examineAll es).1, before ++ (s.examineAll es).2.map EntryOutcome.code) := by
  induction es generalizing s before with
  | nil => simp [State.examineAll]
  | cons e es ih => rw [List.foldl_cons, State.visit, ih]; simp [State.examineAll]

theorem postReading_eq (s : State) (p : Position) (body : List Byte) :
    postReading s p body =
      let count := (body.getD 0 0).toNat
      let examined := ((List.range count).map fun k => (rawEntryAt body k).entry).foldl State.visit (s, [])
      if s.nck.clockSet = false then refuse s .noTime
      else if body.length < 6 then refuse s .length
      else if count < 1 ∨ 8 < count then refuse s .range
      else if body.length ≠ readingSize count (body.getD 1 0) then refuse s .length
      else if ∃ k ∈ List.range count, (rawEntryAt body k).OutOfRange then refuse s .range
      else accept examined.1 (byte count :: examined.2) := by
  unfold postReading
  dsimp only
  rw [readReadings_eq, State.examineAll_eq_foldl, List.nil_append]
  dsimp only
  by_cases unset : s.nck.clockSet = false
  · rw [if_pos unset, if_pos (by rw [unset]; rfl)]
  · rw [if_neg unset, if_neg (by simpa using unset)]
    split_ifs <;> simp only [List.length_map, List.length_range]

theorem mayRequest_postReading (r : StationRole) : mayRequest .postReading r = true ↔ r ≠ .pressure := by
  cases r <;> simp [mayRequest]

/-- The row POST READING: its refusals in order, else its entries examined in the order of the body. -/
theorem exec_postReading_eq {s : State} {p : Position} {r : StationRole} (asks : s.Asks p r) (body : List Byte) (fits : body.length ≤ 61) :
    exec (.postReading body) s =
      let count := (body.getD 0 0).toNat
      let examined := ((List.range count).map fun k => (rawEntryAt body k).entry).foldl State.visit (s, [])
      let refused := fun st : Status => Host.Outcome.next (s.refusal .postReading body st)
      if r = .pressure then refused .role
      else if s.nck.clockSet = false then refused .noTime
      else if body.length < 6 then refused .length
      else if count < 1 ∨ 8 < count then refused .range
      else if body.length ≠ readingSize count (body.getD 1 0) then refused .length
      else if ∃ k ∈ List.range count, (rawEntryAt body k).OutOfRange then refused .range
      else .next (examined.1.answered .postReading body .ok (byte count :: examined.2)) := by
  rw [exec_postReading asks body fits, postReading_eq]
  simp only [mayRequest_postReading]
  by_cases noRight : r = .pressure
  · rw [if_pos noRight, if_neg (not_not.2 noRight)]
  · rw [if_neg noRight, if_pos noRight]
    split_ifs <;> rfl

/-! ## The fields as the manual words them (R185, R191, R195) -/

theorem word24_eq (b2 b1 b0 : Byte) : word24 b2 b1 b0 = (b2.toNat * 256 + b1.toNat) * 256 + b0.toNat := by
  unfold word24 word16; ring

theorem word32_eq (b3 b2 b1 b0 : Byte) : word32 b3 b2 b1 b0 = ((b3.toNat * 256 + b2.toNat) * 256 + b1.toNat) * 256 + b0.toNat := by
  unfold word32 word24 word16; ring

theorem derivedDay_eq (base code : Nat) :
    derivedDay base code = (base : Int) + (match code with | 0 => 0 | 1 => -1 | 2 => -2 | _ => 1) := by
  rcases code with _ | _ | _ | code
  · exact (add_zero _).symm
  all_goals rfl

/-- Settles O44: the fields of the statement are those of `rawEntryAt`, and the row is `exec_postReading_eq`. -/
theorem postReadingExaminesInOrder : Obligations.PostReadingExaminesInOrder := by
  intro s p r body asks fits at_ count carries start identifier day volume entry refused visit examined
  have identifiers (k : Nat) : identifier k = (rawEntryAt body k).identifier := (word32_eq _ _ _ _).symm
  have volumes (k : Nat) : volume k = (rawEntryAt body k).volume := (word24_eq _ _ _).symm
  have days (k : Nat) : day k = (rawEntryAt body k).day := (derivedDay_eq _ _).symm
  have qualities (k : Nat) : decide (128 ≤ at_ (start k)) = (rawEntryAt body k).estimated := (BitVec.msb_eq_decide (body.getD (start k) 0)).symm
  have entries : entry = fun k => (rawEntryAt body k).entry := by
    funext k
    simp only [entry]
    rw [identifiers, volumes, days, qualities]
    rfl
  have outOfRange (k : Nat) :
      (identifier k = 0 ∨ 95 < at_ (start k) % 128 ∨ day k < 0 ∨ 65535 < day k) ↔ (rawEntryAt body k).OutOfRange := by
    rw [identifiers, days]; rfl
  simp only [outOfRange]
  clear_value entry
  subst entries
  exact exec_postReading_eq asks body fits

end Sys2Proof.Machine
end

section
/-!
PROOF. The choice of the Evaluation Unit and its snapshot (R86, R87).
-/

namespace Sys2Proof.Machine

/-! ## The slots of a snapshot (R22, R87) -/

/-- The role of a slot in a district that it names: that of the primary link, if that link names the district, else that of the
secondary. -/
theorem Slot.roleFor_of_names {sl : Slot} {d : District} (names : sl.Names d) :
    sl.roleFor d = some (if sl.primary.map (·.district) = some d then (sl.primary.map (·.role)).getD .inlet
      else (sl.secondary.map (·.role)).getD .inlet) := by
  unfold Slot.roleFor
  cases hp : sl.primary with
  | none =>
    obtain ⟨m, hm, rfl⟩ : ∃ m, sl.secondary = some m ∧ m.district = d := by simpa [Slot.Names, hp] using names
    simp [hm]
  | some l =>
    by_cases here : l.district = d
    · simp [here]
    · obtain ⟨m, hm, rfl⟩ : ∃ m, sl.secondary = some m ∧ m.district = d := by simpa [Slot.Names, hp, here] using names
      simp [here, hm]

theorem Slot.roleFor_eq_none_iff (sl : Slot) (d : District) : sl.roleFor d = none ↔ ¬ sl.Names d := by
  rw [← Slot.linkedTo_iff, Slot.linkedTo, Option.not_isSome_iff_eq_none]

/-- A snapshot holds the enabled slots that name the district, in order, each in the role of its link that names it. -/
theorem State.snapshot_slots (s : State) (d : District) :
    (s.snapshot d).slots = (s.slots.1.filter (fun x => x.enabled && decide (x.Names d))).map (fun x =>
      { role := if x.primary.map (·.district) = some d then (x.primary.map (·.role)).getD .inlet
                else (x.secondary.map (·.role)).getD .inlet
        cells := x.cells.1.take s.nck.wlen, heldMean := x.heldMean }) := by
  rw [← List.filterMap_eq_map, List.filterMap_filter]
  refine List.filterMap_congr fun x _ => ?_
  by_cases enabled : x.enabled
  · by_cases names : x.Names d
    · simp [enabled, names, Slot.roleFor_of_names names]
    · simp [enabled, names, (x.roleFor_eq_none_iff d).2 names]
  · simp [enabled]

/-! ## The entry taken (R86) -/

/-- No entry is taken where every entry is held. -/
theorem State.chosen_eq_none_iff (s : State) : s.chosen = none ↔ ∀ x ∈ s.queue, (s.district x.district).hold ≠ none := by
  simp [State.chosen, List.find?_eq_none]

/-- Behind entries that are all held, the first one not held is the one taken. -/
theorem State.chosen_eq_some {s : State} {ahead behind : List QueueEntry} {e : QueueEntry}
    (held : ∀ x ∈ ahead, (s.district x.district).hold ≠ none) (queue : s.queue = ahead ++ e :: behind)
    (free : (s.district e.district).hold = none) : s.chosen = some e := by
  rw [State.chosen, List.find?_eq_some_iff_append]
  exact ⟨by simp [free], ahead, behind, queue, fun x hx => by simpa using Option.isSome_iff_ne_none.2 (held x hx)⟩

/-- No district stands twice in the queue, so taking out a district takes out its one entry. -/
theorem filter_district_ne_of_nodup {ahead behind : List QueueEntry} {e : QueueEntry}
    (nodup : ((ahead ++ e :: behind).map (·.district)).Nodup) :
    (ahead ++ e :: behind).filter (fun x => decide (x.district ≠ e.district)) = ahead ++ behind := by
  rw [List.map_append, List.map_cons, List.nodup_middle, List.nodup_cons, ← List.map_append] at nodup
  obtain ⟨once, -⟩ := nodup
  have others (x : QueueEntry) (hx : x ∈ ahead ++ behind) : x.district ≠ e.district :=
    fun same => once (same ▸ List.mem_map_of_mem hx)
  have kept : (ahead ++ behind).filter (fun x => decide (x.district ≠ e.district)) = ahead ++ behind :=
    List.filter_eq_self.2 fun x hx => decide_eq_true (others x hx)
  simpa [List.filter_append] using kept

/-! ## The choice -/

theorem exec_choice {s : State} (run : s.running = true) : exec .choice s = .next s.choose :=
  congrArg Host.Outcome.next (if_pos run)

theorem State.choose_of_none {s : State} (due : s.choiceDue = true) (idle : s.flight = none) (allHeld : s.chosen = none) :
    s.choose = { s with choiceDue := false } := by
  simp [State.choose, due, idle, allHeld]

theorem State.choose_of_some {s : State} {e : QueueEntry} (due : s.choiceDue = true) (idle : s.flight = none) (taken : s.chosen = some e) :
    s.choose = ({ s with choiceDue := false } : State).beginEvaluation e := by
  simp [State.choose, due, idle, taken]

/-- Settles O11: the entry taken is `State.chosen`, whose one entry leaves the queue as its evaluation begins. -/
theorem choiceTakesTheOldestUnheld : Obligations.ChoiceTakesTheOldestUnheld := by
  intro s ahead behind e n run due idle night held
  rw [exec_choice run]
  refine ⟨fun queue => ?_, fun queue nodup free => ?_⟩
  · rw [State.choose_of_none due idle (s.chosen_eq_none_iff.2 (queue ▸ held))]
  · have left : s.queue.filter (fun x => decide (x.district ≠ e.district)) = ahead ++ behind := by
      rw [queue] at nodup ⊢
      exact filter_district_ne_of_nodup nodup
    have day : s.nck.nightDay.getD 0 = n := by rw [night]; rfl
    rw [State.choose_of_some due idle (State.chosen_eq_some held queue free), ← left, ← day, ← State.snapshot_slots]
    rfl

end Sys2Proof.Machine
end

section
/-!
PROOF. Substitution, usability and the status of a completed result (R95 to R98, R100).
-/

namespace Sys2Proof.Machine

/-! ## Substitution (R96) -/

theorem Cell.not_filled_eq (c : Cell) : (!c.filled) = decide (c.state = .empty) := by simp [Cell.filled]

/-- The filled cells of a list have no mean exactly where every cell is EMPTY. -/
theorem filledMean_isNone_iff (cells : List Cell) :
    (filledMean cells).isNone = true ↔ (cells.filter (fun c => decide (c.state = .empty))).length = cells.length := by
  unfold filledMean filledVolumes
  simp [List.filter_eq_nil_iff, Cell.filled]

/-- A slot has no substitute exactly where all its cells are EMPTY and it has no held mean. -/
theorem SnapshotSlot.substitute_isNone (sl : SnapshotSlot) :
    sl.substitute.isNone =
      (decide ((sl.cells.filter (fun c => decide (c.state = .empty))).length = sl.cells.length) && sl.heldMean.isNone) := by
  have all := filledMean_isNone_iff sl.cells
  unfold SnapshotSlot.substitute
  cases mean : filledMean sl.cells with
  | none => rw [decide_eq_true (all.1 (by rw [mean]; rfl))]; rfl
  | some m => rw [decide_eq_false (fun h => by simpa [mean] using all.2 h)]; rfl

theorem Snapshot.substituted_eq (sn : Snapshot) :
    sn.substituted = (sn.slots.map (fun y => (y.cells.filter (fun c => decide (c.state = .empty))).length)).sum := by
  simp only [Snapshot.substituted, Cell.not_filled_eq]

/-! ## The pressure choice (R98) -/

theorem Snapshot.cellPressure_isNone (sn : Snapshot) : sn.cellPressure.isNone = (sn.pressure.filterMap id).isEmpty := by
  unfold Snapshot.cellPressure
  cases sn.pressure.filterMap id <;> rfl

/-- The held pressure, or no pressure, serves exactly where a code that corrects meets no filled pressure cell. -/
theorem Snapshot.usesHeld_or_uncorrected (sn : Snapshot) :
    (sn.usesHeld || sn.uncorrected) = (decide (sn.params.n1 ≠ .none) && sn.cellPressure.isNone) := by
  unfold Snapshot.usesHeld Snapshot.uncorrected
  cases sn.heldPressure <;> simp

/-! ## The result (R95, R97, R100) -/

/-- What a result says of every snapshot, usable or not. -/
theorem Snapshot.result_counts (sn : Snapshot) :
    sn.result.nightDay = sn.nightDay ∧ sn.result.reason = sn.unusable ∧ sn.result.slotsUsed = sn.slots.length ∧
    sn.result.cellsSubstituted = sn.substituted := by
  unfold Snapshot.result
  cases sn.unusable <;> exact ⟨rfl, rfl, rfl, rfl⟩

theorem Snapshot.result_of_unusable {sn : Snapshot} (unusable : sn.unusable ≠ none) :
    sn.result.status = .unusable ∧ sn.result.figures = none ∧ sn.result.verdict = .none ∧
    sn.result.flags = ⟨false, false, false, false⟩ := by
  obtain ⟨why, h⟩ := Option.ne_none_iff_exists'.1 unusable
  rw [Snapshot.result, h]
  exact ⟨rfl, rfl, rfl, rfl⟩

theorem Snapshot.result_of_usable {sn : Snapshot} (usable : sn.unusable = none) :
    sn.result.status = (if decide (0 < sn.substituted) || sn.usesHeld || sn.uncorrected then .patched else .clean) ∧
    sn.result.figures = some sn.figures ∧ sn.result.flags = sn.flags := by
  rw [Snapshot.result, usable]
  exact ⟨rfl, rfl, rfl⟩

/-- Settles O14: the reason is `Snapshot.unusable`, and each of its two outcomes gives the rest of the result. -/
theorem resultStatusFollowsUsability : Obligations.ResultStatusFollowsUsability := by
  intro x empties s noHistory reason noCells
  have count : x.substituted = s := x.substituted_eq
  have judged : x.unusable = reason := by
    simp only [Snapshot.unusable, SnapshotSlot.substitute_isNone, count]; rfl
  have unmeasured : noCells = (decide (x.params.n1 ≠ .none) && x.cellPressure.isNone) := by
    rw [Snapshot.cellPressure_isNone]
  obtain ⟨day, why, slots, cells⟩ := x.result_counts
  refine ⟨day, why.trans judged, slots, cells.trans count, ?_, fun bad => ?_, fun good => ?_⟩
  · by_cases usable : reason = none
    · have status := (Snapshot.result_of_usable (judged.trans usable)).1
      rw [Bool.or_assoc, Snapshot.usesHeld_or_uncorrected, ← unmeasured, count] at status
      simpa [usable] using status
    · rw [if_pos usable]
      exact (Snapshot.result_of_unusable (judged ▸ usable)).1
  · exact (Snapshot.result_of_unusable (judged ▸ bad)).2
  · obtain ⟨-, figures, flags⟩ := Snapshot.result_of_usable (judged.trans good)
    rw [figures, flags, unmeasured]
    exact ⟨rfl, rfl, rfl⟩

end Sys2Proof.Machine
end

section
/-!
PROOF. The integer square root (R111).
-/

namespace Sys2Proof.Machine

/-- Each bit tried halves the gap between `r` and the bound above the root. -/
theorem isqrtFrom_spec {i r n : Nat} (below : r * r ≤ n) (above : n < (r + 2 ^ i) * (r + 2 ^ i)) :
    isqrtFrom i r n * isqrtFrom i r n ≤ n ∧ n < (isqrtFrom i r n + 1) * (isqrtFrom i r n + 1) := by
  induction i generalizing r with
  | zero => exact ⟨below, above⟩
  | succ i ih =>
    rw [isqrtFrom]
    by_cases fits : (r + 2 ^ i) * (r + 2 ^ i) ≤ n
    · rw [if_pos fits]
      have gap : r + 2 ^ (i + 1) = r + 2 ^ i + 2 ^ i := by ring
      exact ih fits (gap ▸ above)
    · rw [if_neg fits]
      exact ih below (not_le.1 fits)

/-- The first bit that `isqrt` tries lies high enough: twice its place reaches beyond the root. -/
theorem isqrt_spec (n : Nat) : isqrt n * isqrt n ≤ n ∧ n < (isqrt n + 1) * (isqrt n + 1) := by
  refine isqrtFrom_spec (Nat.zero_le n) ?_
  calc n < 2 ^ (Nat.log2 n + 1) := Nat.lt_log2_self
    _ ≤ 2 ^ ((Nat.log2 n / 2 + 1) + (Nat.log2 n / 2 + 1)) := Nat.pow_le_pow_right (by decide) (by omega)
    _ = (0 + 2 ^ (Nat.log2 n / 2 + 1)) * (0 + 2 ^ (Nat.log2 n / 2 + 1)) := by rw [Nat.zero_add, Nat.pow_add]

/-- The part's square root is the library's. -/
theorem isqrt_eq_sqrt (n : Nat) : isqrt n = Nat.sqrt n := Nat.eq_sqrt.2 (isqrt_spec n)

theorem isqrt_mul_self (r : Nat) : isqrt (r * r) = r := by rw [isqrt_eq_sqrt, Nat.sqrt_eq]

theorem isqrt_mono {m n : Nat} (h : m ≤ n) : isqrt m ≤ isqrt n := by
  simpa only [isqrt_eq_sqrt] using Nat.sqrt_le_sqrt h

/-- The root at the lower limit of Q. -/
theorem isqrt_ratio_min : isqrt (16384 * 65536) = 32768 := isqrt_mul_self 32768

/-- The root at the upper limit of Q. -/
theorem isqrt_ratio_max : isqrt (262144 * 65536) = 131072 := isqrt_mul_self 131072

theorem isqrt_ratio_mono {q r : Nat} (h : q ≤ r) : isqrt (q * 65536) ≤ isqrt (r * 65536) :=
  isqrt_mono (Nat.mul_le_mul_right _ h)

theorem isqrt_ratio_bounds {q : Nat} (low : 16384 ≤ q) (high : q ≤ 262144) :
    32768 ≤ isqrt (q * 65536) ∧ isqrt (q * 65536) ≤ 131072 :=
  ⟨isqrt_ratio_min ▸ isqrt_ratio_mono low, isqrt_ratio_max ▸ isqrt_ratio_mono high⟩

/-- Settles O16: the bits tried close in on the root, and the root grows with its argument. -/
theorem isqrtIsTheIntegerSquareRoot : Obligations.IsqrtIsTheIntegerSquareRoot := by
  refine ⟨isqrt_spec, fun q low high => ⟨by omega, by omega, isqrt_ratio_bounds low high⟩, isqrt_mul_self 65536, ?_⟩
  rw [isqrt_eq_sqrt]
  exact (Nat.eq_sqrt.2 (by decide)).symm

end Sys2Proof.Machine
end

section
/-!
PROOF. The pressure used, the pressure ratio and the pressure factor (R98, R110, R112, R113).
-/

namespace Sys2Proof.Machine

/-! ## The pressure used (R98) -/

theorem Snapshot.pressureUsed_eq (sn : Snapshot) :
    sn.pressureUsed =
      if sn.params.n1 = .none then none
      else if sn.pressure.filterMap id ≠ [] then some ((sn.pressure.filterMap id).sum / (sn.pressure.filterMap id).length)
      else sn.heldPressure := by
  unfold Snapshot.pressureUsed Snapshot.cellPressure
  generalize sn.pressure.filterMap id = filled
  cases filled with
  | nil => cases sn.params.n1 <;> rfl
  | cons p l => cases sn.params.n1 <;> rfl

/-- UNCORRECTED is raised exactly where a code that corrects finds no pressure. -/
theorem Snapshot.uncorrected_eq (sn : Snapshot) :
    sn.uncorrected = decide (sn.params.n1 ≠ .none ∧ sn.pressureUsed = none) := by
  unfold Snapshot.uncorrected Snapshot.pressureUsed
  cases sn.cellPressure with
  | some p => cases sn.params.n1 <;> rfl
  | none => cases sn.params.n1 <;> cases sn.heldPressure <;> rfl

theorem optional_all_le_iff (o : Option Nat) (b : Nat) : o.all (fun p => decide (p ≤ b)) = true ↔ ∀ p ∈ o, p ≤ b := by
  simp [Option.all_eq_true]

/-- A mean of values that keep a bound keeps it. -/
theorem sum_div_length_le {l : List Nat} {b : Nat} (bounded : ∀ p ∈ l, p ≤ b) : l.sum / l.length ≤ b :=
  Nat.div_le_of_le_mul (by simpa using l.sum_le_card_nsmul b bounded)

/-- The pressure used keeps the limit of the samples filed and of the held pressure. -/
theorem Snapshot.pressureUsed_le {sn : Snapshot} {b p : Nat} (cells : ∀ v ∈ sn.pressure, ∀ p ∈ v, p ≤ b)
    (held : ∀ p ∈ sn.heldPressure, p ≤ b) (used : sn.pressureUsed = some p) : p ≤ b := by
  rw [Snapshot.pressureUsed_eq] at used
  split_ifs at used with _ filled
  · have bounded : ∀ p ∈ sn.pressure.filterMap id, p ≤ b := by
      intro p hp
      obtain ⟨v, hv, rfl⟩ := List.mem_filterMap.1 hp
      exact cells _ hv p rfl
    exact Option.some.inj used ▸ sum_div_length_le bounded
  · exact held p used

/-! ## The pressure ratio (R110) -/

theorem pressureRatio_eq (pRef p : Nat) :
    pressureRatio pRef p =
      (if p = 0 then 262144 else if pRef * 65536 / p < 16384 then 16384
        else if 262144 < pRef * 65536 / p then 262144 else pRef * 65536 / p,
       decide (p = 0 ∨ pRef * 65536 / p < 16384 ∨ 262144 < pRef * 65536 / p)) := by
  unfold pressureRatio
  split_ifs <;> simp [*]

theorem pressureRatio_bounds (pRef p : Nat) : 16384 ≤ (pressureRatio pRef p).1 ∧ (pressureRatio pRef p).1 ≤ 262144 := by
  rw [pressureRatio_eq]
  dsimp only
  split_ifs <;> omega

/-- Below the reference pressure even one step of pressure lifts the unclamped ratio by 65,536 / p, which is at least 32. -/
theorem pressureRatio_gt_of_lt {pRef p : Nat} (ref : pRef ≤ 2000) (below : p < pRef) : 65536 < (pressureRatio pRef p).1 := by
  have lifted : 0 < p → 65537 ≤ pRef * 65536 / p := fun pos => (Nat.le_div_iff_mul_le pos).2 (by omega)
  rw [pressureRatio_eq]
  dsimp only
  split_ifs <;> omega

theorem pressureRatio_lt_of_gt {pRef p : Nat} (above : pRef < p) : (pressureRatio pRef p).1 < 65536 := by
  have lowered : pRef * 65536 / p < 65536 := Nat.div_lt_of_lt_mul (by omega)
  rw [pressureRatio_eq]
  dsimp only
  split_ifs <;> omega

/-- The unclamped ratio of a pressure in 1..2,000 to a reference pressure in 1..2,000. -/
theorem unclamped_ratio_bounds {pRef p : Nat} (ref1 : 1 ≤ pRef) (ref2 : pRef ≤ 2000) (low : 1 ≤ p) (high : p ≤ 2000) :
    32 ≤ pRef * 65536 / p ∧ pRef * 65536 / p ≤ 131072000 :=
  ⟨(Nat.le_div_iff_mul_le low).2 (by omega), Nat.div_le_of_le_mul (by omega)⟩

/-! ## The pressure factor (R112, R113) -/

theorem ratio_mul_isqrt_mono {q r : Nat} (h : q ≤ r) : q * isqrt (q * 65536) ≤ r * isqrt (r * 65536) :=
  Nat.mul_le_mul h (isqrt_ratio_mono h)

theorem ratio_mul_isqrt_bounds {q : Nat} (low : 16384 ≤ q) (high : q ≤ 262144) :
    536870912 ≤ q * isqrt (q * 65536) ∧ q * isqrt (q * 65536) ≤ 34359738368 := by
  have least := ratio_mul_isqrt_mono low
  have greatest := ratio_mul_isqrt_mono high
  rw [isqrt_ratio_min] at least
  rw [isqrt_ratio_max] at greatest
  exact ⟨least, greatest⟩

theorem pressureFactor_mono (n1 : Exponent) {q r : Nat} (h : q ≤ r) : pressureFactor n1 q ≤ pressureFactor n1 r := by
  cases n1 with
  | none => exact le_rfl
  | half => exact isqrt_ratio_mono h
  | one => exact h
  | oneHalf => exact Nat.div_le_div_right (ratio_mul_isqrt_mono h)

/-- The factor of the lowest ratio under each code. -/
theorem pressureFactor_min (n1 : Exponent) :
    pressureFactor n1 16384 = (match n1 with | .none => 65536 | .half => 32768 | .one => 16384 | .oneHalf => 8192) := by
  cases n1 with
  | none | one => rfl
  | half => exact isqrt_ratio_min
  | oneHalf => rw [pressureFactor, isqrt_ratio_min]

/-- The factor of the highest ratio under each code. -/
theorem pressureFactor_max (n1 : Exponent) :
    pressureFactor n1 262144 = (match n1 with | .none => 65536 | .half => 131072 | .one => 262144 | .oneHalf => 524288) := by
  cases n1 with
  | none | one => rfl
  | half => exact isqrt_ratio_max
  | oneHalf => rw [pressureFactor, isqrt_ratio_max]

/-- At the reference pressure no code corrects. -/
theorem pressureFactor_unity (n1 : Exponent) : pressureFactor n1 65536 = 65536 := by
  have root : isqrt (65536 * 65536) = 65536 := isqrt_mul_self 65536
  cases n1 with
  | none | one => rfl
  | half => exact root
  | oneHalf => rw [pressureFactor, root]

/-- A ratio below 65,536 lowers the factor of every code that corrects. -/
theorem pressureFactor_lt_of_lt {n1 : Exponent} {q : Nat} (corrects : n1 ≠ .none) (h : q < 65536) :
    pressureFactor n1 q < 65536 := by
  have root : isqrt (q * 65536) < 65536 := by
    rw [isqrt_eq_sqrt, Nat.sqrt_lt]
    exact Nat.mul_lt_mul_of_pos_right h (by decide)
  cases n1 with
  | none => exact absurd rfl corrects
  | half => exact root
  | one => exact h
  | oneHalf => exact Nat.div_lt_of_lt_mul (Nat.mul_lt_mul'' h root)

theorem pressureFactor_bounds (n1 : Exponent) {q : Nat} (low : 16384 ≤ q) (high : q ≤ 262144) :
    8192 ≤ pressureFactor n1 q ∧ pressureFactor n1 q ≤ 524288 := by
  have least := pressureFactor_mono n1 low
  have greatest := pressureFactor_mono n1 high
  rw [pressureFactor_min] at least
  rw [pressureFactor_max] at greatest
  refine ⟨le_trans ?_ least, greatest.trans ?_⟩
  · cases n1 <;> decide
  · cases n1 <;> decide

/-! ## The factor of a snapshot (R112) -/

theorem Snapshot.factor_of_none {sn : Snapshot} (unused : sn.pressureUsed = none) : sn.factor = (65536, false) := by
  rw [Snapshot.factor, unused]

theorem Snapshot.factor_of_some {sn : Snapshot} {p : Nat} (used : sn.pressureUsed = some p) :
    sn.factor = (pressureFactor sn.params.n1 (pressureRatio sn.params.pRef p).1, (pressureRatio sn.params.pRef p).2) := by
  rw [Snapshot.factor, used]

theorem Snapshot.factor_bounds (sn : Snapshot) : 8192 ≤ sn.factor.1 ∧ sn.factor.1 ≤ 524288 := by
  cases used : sn.pressureUsed with
  | none => rw [Snapshot.factor_of_none used]; decide
  | some p =>
    obtain ⟨low, high⟩ := pressureRatio_bounds sn.params.pRef p
    rw [Snapshot.factor_of_some used]
    exact pressureFactor_bounds _ low high

/-! ## What a result carries of them (R120, R121) -/

theorem Snapshot.usable_of_status {sn : Snapshot} (usable : sn.result.status ≠ .unusable) : sn.unusable = none :=
  not_not.1 fun bad => usable (Snapshot.result_of_unusable bad).1

/-- The figures that a result carries are those of its snapshot. -/
theorem Snapshot.figures_of_result {sn : Snapshot} {g : Figures} (carried : sn.result.figures = some g) : g = sn.figures := by
  by_cases usable : sn.unusable = none
  · rw [(Snapshot.result_of_usable usable).2.1] at carried
    exact (Option.some.inj carried).symm
  · rw [(Snapshot.result_of_unusable usable).2.1] at carried
    cases carried

/-- Settles O17: `pressureUsed`, `pressureRatio` and `pressureFactor` in the manual's words, and a usable result that carries them. -/
theorem pressureRatioIsClamped : Obligations.PressureRatioIsClamped := by
  intro x ref1 ref2 cells2000 held2000 cells used u
  have chosen : x.pressureUsed = used := x.pressureUsed_eq
  simp only [optional_all_le_iff] at cells2000 held2000
  have limit : ∀ p ∈ x.pressureUsed, p ≤ 2000 := fun p => Snapshot.pressureUsed_le cells2000 held2000
  rw [← chosen]
  refine ⟨rfl, (optional_all_le_iff _ _).2 limit, Snapshot.factor_of_none, fun p hp => ?_,
    fun p low high => unclamped_ratio_bounds ref1 ref2 low high, fun q low high => ratio_mul_isqrt_bounds low high,
    fun usable => ?_⟩
  · rw [Snapshot.factor_of_some hp, pressureRatio_eq]
    exact ⟨rfl, rfl⟩
  · obtain ⟨-, figures, flags⟩ := Snapshot.result_of_usable (Snapshot.usable_of_status usable)
    rw [figures, flags, ← Snapshot.uncorrected_eq]
    exact ⟨x.figures, rfl, rfl, rfl, rfl, rfl⟩

/-- A factor of 65,536 or more does not lower a figure that is not negative; a smaller one lowers a positive figure. -/
theorem corrected_figure_compared {nf f : Int} (nonneg : 0 ≤ nf) :
    (65536 ≤ f → nf ≤ nf * f / 65536) ∧ (f < 65536 → 0 < nf → nf * f / 65536 < nf) := by
  refine ⟨fun raises => ?_, fun lowers pos => ?_⟩
  · rw [Int.le_ediv_iff_mul_le (by decide)]
    exact mul_le_mul_of_nonneg_left raises nonneg
  · rw [Int.ediv_lt_iff_lt_mul (by decide)]
    exact mul_lt_mul_of_pos_left lowers pos

/-- Settles O18: the factor grows with the ratio, so its limits are those at the ends of Q, and 65,536 parts what raises a figure from
what lowers it. -/
theorem pressureFactorStaysInRange : Obligations.PressureFactorStaysInRange := by
  refine ⟨fun x g carried => ?_,
    fun n1 q r low step high =>
      ⟨pressureFactor_mono n1 step, pressureFactor_mono n1 low, pressureFactor_mono n1 (step.trans high)⟩,
    fun n1 => ⟨pressureFactor_min n1, pressureFactor_max n1⟩, fun n1 pRef p ref below => ?_,
    fun n1 pRef p _ above _ => ?_, fun nf f => corrected_figure_compared⟩
  · rw [Snapshot.figures_of_result carried]
    exact x.factor_bounds
  · have ratio := pressureRatio_gt_of_lt ref below
    exact ⟨ratio, pressureFactor_unity n1 ▸ pressureFactor_mono n1 ratio.le⟩
  · have ratio := pressureRatio_lt_of_gt above
    exact ⟨ratio, fun corrects => pressureFactor_lt_of_lt corrects ratio⟩

end Sys2Proof.Machine
end

section
/-!
PROOF. The completion of an evaluation: the result published, the learning gate, and the night that may end with it
(R10, R85, R89, R90, R99, R126, R127).
-/

namespace Sys2Proof.Machine

/-! ## What an alert change can touch (R141, R142, R164) -/

/-- `t` has every watch of `s` but that of `d`, and every station entry of `s` but for its pending set. -/
structure State.SameButAlert (d : District) (s t : State) : Prop where
  watch : ∀ e : District, e ≠ d → t.watch e = s.watch e
  station : ∀ p : Position, t.station p = { s.station p with pendingSet := (t.station p).pendingSet }

theorem State.SameButAlert.refl (d : District) (s : State) : State.SameButAlert d s s := ⟨fun _ _ => rfl, fun _ => rfl⟩

theorem State.SameButAlert.trans {d : District} {s t u : State} (first : State.SameButAlert d s t) (next : State.SameButAlert d t u) :
    State.SameButAlert d s u where
  watch e h := (next.watch e h).trans (first.watch e h)
  station p := (next.station p).trans (congrArg (fun st : Station => { st with pendingSet := (u.station p).pendingSet }) (first.station p))

/-- An alert change leaves all of a station entry but its pending set. -/
theorem Station.afterAlert_frame (d : District) (a : Alert) (st : Station) :
    st.afterAlert d a = { st with pendingSet := (st.afterAlert d a).pendingSet } := by
  unfold Station.afterAlert
  split
  · split <;> rfl
  · rfl

theorem State.station_handOver (s : State) (d : District) (a : Alert) (p : Position) :
    (s.handOver d a).station p = (s.station p).afterAlert d a := Table.get_map _ _ p

theorem State.sameButAlert_modWatch (s : State) (d : District) (f : Watch → Watch) : State.SameButAlert d s (s.modWatch d f) :=
  ⟨fun _ h => s.watch_modWatch_ne f h, fun _ => rfl⟩

theorem State.sameButAlert_handOver (s : State) (d : District) (a : Alert) : State.SameButAlert d s (s.handOver d a) where
  watch _ _ := rfl
  station p := by rw [State.station_handOver]; exact Station.afterAlert_frame d a _

theorem State.sameButAlert_endCleared (s : State) (d : District) : State.SameButAlert d s (s.endCleared d) := by
  unfold State.endCleared
  split
  · exact (s.sameButAlert_modWatch d _).trans (State.sameButAlert_handOver _ d _)
  · exact .refl d s

theorem State.sameButAlert_alertChanged (s : State) (d : District) : State.SameButAlert d s (s.alertChanged d) :=
  (s.sameButAlert_handOver d _).trans (State.sameButAlert_endCleared _ d)

/-- A result applied to the watch of a district touches that watch and pending sets. -/
theorem State.sameButAlert_applyResult (s : State) (d : District) (st : ResultStatus) (v : Verdict) :
    State.SameButAlert d s (s.applyResult d st v) := by
  unfold State.applyResult
  dsimp only
  split
  · exact (s.sameButAlert_modWatch d _).trans (State.sameButAlert_alertChanged _ d)
  · exact s.sameButAlert_modWatch d _

/-! ## The learning gate (R126, R127) -/

theorem learns_iff (r : Result) (stage : WatchState) (ring : List RingEntry) :
    learns r stage ring = true ↔
      r.status = .clean ∧ (r.verdict = .normal ∨ r.verdict = .none) ∧ (stage = .learning ∨ stage = .quiet ∨ stage = .watch) ∧
      ring.getLast?.all (fun x => decide (x.nightDay < r.nightDay)) = true := by
  unfold learns
  cases ring.getLast? <;> simp [and_assoc, or_assoc]

/-- A ring that holds 8 entries loses its oldest to a new one. -/
theorem ringAppend_eq (ring : List RingEntry) (e : RingEntry) :
    ringAppend ring e = (if 8 ≤ ring.length then ring.tail else ring) ++ [e] := by
  unfold ringAppend
  by_cases full : 8 ≤ ring.length
  · rw [if_neg (by omega), if_pos full, List.drop_one]
  · rw [if_pos (by omega), if_neg full]

theorem State.offer_baseline_ne (s : State) {d e : District} (r : Result) (h : e ≠ d) : (s.offer d r).baseline e = s.baseline e := by
  unfold State.offer
  split
  · split
    · exact s.baseline_modBaseline_ne _ h
    · rfl
  · rfl

/-- A CLEAN result carries figures. -/
theorem Snapshot.figures_of_clean {sn : Snapshot} (clean : sn.result.status = .clean) : sn.result.figures = some sn.figures := by
  have usable := Snapshot.usable_of_status (sn := sn) (by rw [clean]; decide)
  exact (Snapshot.result_of_usable usable).2.1

/-- A result that passes the gate is appended with its corrected figure; one that fails it leaves the record. -/
theorem State.offer_baseline (s : State) (d : District) (sn : Snapshot) :
    (s.offer d sn.result).baseline d =
      if learns sn.result (s.watch d).state (s.baseline d).ring = true then { s.baseline d with
        ring := ringAppend (s.baseline d).ring ⟨sn.result.nightDay, (sn.result.figures.map (·.c)).getD 0⟩ }
      else s.baseline d := by
  unfold State.offer
  split
  next fig carried =>
    rw [carried]
    split
    · exact s.baseline_modBaseline_self d _
    · rfl
  next absent =>
    have fails : ¬ learns sn.result (s.watch d).state (s.baseline d).ring = true := fun passes => by
      have carried := Snapshot.figures_of_clean ((learns_iff _ _ _).1 passes).1
      rw [absent] at carried
      cases carried
    rw [if_neg fails]

/-! ## The result settled (R89, R90, R99) -/

/-- The held pressure is replaced by the mean of the filled pressure cells, if there is one (R99). -/
theorem Snapshot.cellPressure_or (sn : Snapshot) (held : Option Nat) :
    sn.cellPressure.or held =
      if sn.pressure.filterMap id = [] then held
      else some ((sn.pressure.filterMap id).sum / (sn.pressure.filterMap id).length) := by
  unfold Snapshot.cellPressure
  by_cases unmeasured : sn.pressure.filterMap id = []
  · rw [if_pos unmeasured, if_pos unmeasured]; rfl
  · rw [if_neg unmeasured, if_neg unmeasured]; rfl

/-- A computed result stands in its district's record, which is DONE, and the unit is IDLE: the state that meets the Baseline Store. -/
def State.recorded (s : State) (d : District) (p : Option Nat) (r : Result) : State :=
  { s.modDistrict d (fun x => { x with heldPressure := p.or x.heldPressure, result := some r, nightState := .done }) with flight := none }

theorem State.settleResult_eq (s : State) (d : District) (p : Option Nat) (r : Result) :
    s.settleResult d p r = ((s.recorded d p r).offer d r).applyResult d r.status r.verdict := by
  cases p <;> rfl

theorem State.settleResult_district (s : State) (d : District) (p : Option Nat) (r : Result) (e : District) :
    (s.settleResult d p r).district e =
      if e = d then { s.district d with nightState := .done, result := some r, heldPressure := p.or (s.district d).heldPressure }
      else s.district e := by
  rw [State.settleResult_eq, State.applyResult_frame, State.offer_frame]
  exact s.district_modDistrict d e _

theorem State.settleResult_baseline (s : State) (d : District) (p : Option Nat) (r : Result) (e : District) :
    (s.settleResult d p r).baseline e = ((s.recorded d p r).offer d r).baseline e := by
  rw [State.settleResult_eq, State.applyResult_frame]; rfl

theorem State.sameButAlert_settleResult (s : State) (d : District) (p : Option Nat) (r : Result) :
    State.SameButAlert d s (s.settleResult d p r) := by
  rw [State.settleResult_eq, State.offer_frame]
  exact .trans (t := { s.recorded d p r with baselines := ((s.recorded d p r).offer d r).baselines })
    ⟨fun _ _ => rfl, fun _ => rfl⟩ (State.sameButAlert_applyResult _ d _ _)

/-! ## The night that may end (R10) -/

/-- The night-end test finds the night at its end: SETTLING or CLOSING, with no district left to close. -/
abbrev State.NightEnds (s : State) : Prop :=
  (s.nck.phase = .settling ∨ s.nck.phase = .closing) ∧ ∀ d : District, ¬ s.Unclosed d

theorem State.nightEndTest_of_ends {s : State} (ends : s.NightEnds) :
    s.nightEndTest = State.raiseAll .nightClosed { s with nck.phase := .daytime } := by
  obtain ⟨phase, closed⟩ := ends
  rw [State.nightEndTest_cases s phase, if_neg (not_exists.2 closed)]

theorem State.nightEndTest_of_not_ends {s : State} (stays : ¬ s.NightEnds) : s.nightEndTest = s := by
  by_cases phase : s.nck.phase = .settling ∨ s.nck.phase = .closing
  · have left : ∃ d : District, s.Unclosed d := by
      by_contra none_left
      exact stays ⟨phase, not_exists.1 none_left⟩
    rw [State.nightEndTest_cases s phase, if_pos left]
  · obtain ⟨settling, closing⟩ := not_or.1 phase
    simp [State.nightEndTest, settling, closing]

section
variable {ends : Prop} [Decidable ends]

/-- The whole effect of the night-end test in any phase, but for the stations. -/
theorem State.nightEndTest_effect {s : State} (h : s.NightEnds ↔ ends) :
    s.nightEndTest = { s with
      nck.phase := if ends then .daytime else s.nck.phase
      stations := s.nightEndTest.stations
      rqh.events := if ends then s.noteAfterRaising (fun _ => 0x02#5) else s.rqh.events } := by
  by_cases e : ends
  · rw [State.nightEndTest_of_ends (h.2 e), if_pos e, if_pos e, State.raiseAll_frame, State.raiseAll_events]; rfl
  · rw [State.nightEndTest_of_not_ends (mt h.1 e), if_neg e, if_neg e]

/-- NIGHT_CLOSED reaches every occupied position when the night ends, in any phase. -/
theorem State.nightEndTest_station_flags {s : State} (h : s.NightEnds ↔ ends) (p : Position) :
    s.nightEndTest.station p = { s.station p with
      flags := if ends ∧ (s.station p).role ≠ none then (s.station p).flags ||| 0x02#5 else (s.station p).flags } := by
  by_cases e : ends
  · have same : State.station { s with nck.phase := .daytime } p = s.station p := rfl
    rw [State.nightEndTest_of_ends (h.2 e), State.raiseAll_station, same]
    by_cases free : (s.station p).role = none
    · rw [if_pos free, if_neg fun raised => raised.2 free]
    · rw [if_neg free, if_pos ⟨e, free⟩]; rfl
  · rw [State.nightEndTest_of_not_ends (mt h.1 e), if_neg fun raised => e raised.1]

end

/-- A settled district is DONE, so the night ends if no other district is still to be closed. -/
theorem State.nightEnds_settleResult (s : State) (d : District) (p : Option Nat) (r : Result) :
    (s.settleResult d p r).NightEnds ↔
      (s.nck.phase = .settling ∨ s.nck.phase = .closing) ∧ ∀ e : District, e ≠ d → ¬ s.Unclosed e := by
  have phase : (s.settleResult d p r).nck = s.nck := by rw [State.settleResult_frame]
  unfold State.NightEnds
  rw [phase]
  refine and_congr_right fun _ => forall_congr' fun e => ?_
  by_cases here : e = d
  · simp [State.Unclosed, State.settleResult_district, here]
  · simp [State.Unclosed, State.settleResult_district, here]

/-! ## The completion (R85, R89) -/

theorem exec_evaluationCompletion {s : State} (run : s.running = true) : exec .evaluationCompletion s = .next s.completeEvaluation :=
  congrArg Host.Outcome.next (if_pos run)

/-- The state that the night-end test of a completion meets. -/
def State.settled (s : State) (f : Flight) : State := s.settleResult f.district f.snapshot.cellPressure f.snapshot.result

/-- After the result is settled and the night-end test made, the unit is IDLE, so the prompt makes a choice due. -/
theorem State.completeEvaluation_eq {s : State} {f : Flight} (flying : s.flight = some f) :
    s.completeEvaluation = { (s.settled f).nightEndTest with choiceDue := true } := by
  have idle : (s.settled f).nightEndTest.flight = none := by
    rw [State.nightEndTest_frame, State.settled, State.settleResult_frame]
  have tested : s.completeEvaluation = (s.settled f).nightEndTest.prompt := by
    rw [State.completeEvaluation, flying]; rfl
  rw [tested, State.prompt_eq]
  simp only [idle, Option.isNone_none, Bool.or_true]

theorem State.sameButAlert_settled (s : State) (f : Flight) : State.SameButAlert f.district s (s.settled f) :=
  s.sameButAlert_settleResult _ _ _

/-- A settled result leaves what a raised flag would leave of the note of a READ EVENTS: roles and that note are as before. -/
theorem State.settled_noteAfterRaising (s : State) (f : Flight) (raised : Position → BitVec 5) :
    (s.settled f).noteAfterRaising raised = s.noteAfterRaising raised := by
  have role (p : Position) : ((s.settled f).station p).role = (s.station p).role := by
    rw [(s.sameButAlert_settled f).station p]
  have note : (s.settled f).rqh.events = s.rqh.events := by rw [State.settled, State.settleResult_frame]
  simp only [State.noteAfterRaising, role, note]

/-- The whole effect of a completion, but for districts, rings, watches, stations and the note of a TAKE NOTICE. -/
theorem State.completeEvaluation_effect {s : State} {f : Flight} (flying : s.flight = some f) {ends : Prop} [Decidable ends]
    (h : (s.settled f).NightEnds ↔ ends) :
    s.completeEvaluation = { s with
      nck.phase := if ends then .daytime else s.nck.phase
      districts := s.completeEvaluation.districts, flight := none, choiceDue := true
      baselines := s.completeEvaluation.baselines, watches := s.completeEvaluation.watches, stations := s.completeEvaluation.stations
      rqh := { notice := s.completeEvaluation.rqh.notice
               events := if ends then s.noteAfterRaising (fun _ => 0x02#5) else s.rqh.events } } := by
  rw [State.completeEvaluation_eq flying, State.nightEndTest_effect h, State.settled_noteAfterRaising, State.settled,
    State.settleResult_frame]

theorem State.completeEvaluation_district {s : State} {f : Flight} (flying : s.flight = some f) (e : District) :
    s.completeEvaluation.district e = (s.settled f).district e := by
  rw [State.completeEvaluation_eq flying]
  exact (s.settled f).nightEndTest_district e

theorem State.completeEvaluation_watch {s : State} {f : Flight} (flying : s.flight = some f) (e : District) :
    s.completeEvaluation.watch e = (s.settled f).watch e := by
  rw [State.completeEvaluation_eq flying, State.nightEndTest_frame]; rfl

theorem State.completeEvaluation_baseline {s : State} {f : Flight} (flying : s.flight = some f) (e : District) :
    s.completeEvaluation.baseline e = (s.settled f).baseline e := by
  rw [State.completeEvaluation_eq flying, State.nightEndTest_frame]; rfl

theorem State.completeEvaluation_station {s : State} {f : Flight} (flying : s.flight = some f) {ends : Prop} [Decidable ends]
    (h : (s.settled f).NightEnds ↔ ends) (p : Position) :
    s.completeEvaluation.station p = { s.station p with
      pendingSet := (s.completeEvaluation.station p).pendingSet
      flags := if ends ∧ (s.station p).role ≠ none then (s.station p).flags ||| 0x02#5 else (s.station p).flags } := by
  have tested : s.completeEvaluation.station p = (s.settled f).nightEndTest.station p := by
    rw [State.completeEvaluation_eq flying]; rfl
  rw [tested, State.nightEndTest_station_flags h, (s.sameButAlert_settled f).station p]

/-- Settles O12: the result is settled, offered to the Baseline Store and applied to the watch, which touches nothing of another
district; then comes the night-end test, in which the district, now DONE, no longer counts. -/
theorem completionPublishesAndLearns : Obligations.CompletionPublishesAndLearns := by
  intro s f run flying r ring cells ends
  have night : (s.settled f).NightEnds ↔ ends := s.nightEnds_settleResult f.district _ _
  refine ⟨s.completeEvaluation, exec_evaluationCompletion run, ?_, ?_, fun e other => ⟨?_, ?_, ?_⟩, ?_, fun p => ?_⟩
  · exact State.completeEvaluation_effect flying night
  · rw [State.completeEvaluation_district flying, State.settled, State.settleResult_district, if_pos rfl, Snapshot.cellPressure_or]
  · rw [State.completeEvaluation_district flying, State.settled, State.settleResult_district, if_neg other]
  · rw [State.completeEvaluation_baseline flying, State.settled, State.settleResult_baseline, State.offer_baseline_ne _ _ other]; rfl
  · rw [State.completeEvaluation_watch flying, (s.sameButAlert_settled f).watch e other]
  · rw [State.completeEvaluation_baseline flying, State.settled, State.settleResult_baseline, State.offer_baseline, ringAppend_eq]
    exact if_congr (learns_iff _ _ _) rfl rfl
  · exact State.completeEvaluation_station flying night p

end Sys2Proof.Machine
end

section
/-!
PROOF. What an alert change does to the pending sets, the watch and the note of a TAKE NOTICE (R141, R142, R164, R167): one rule for each shared
operation on alerts.
-/

namespace Sys2Proof

/-- A record changed twice is changed once, by the one change after the other. -/
theorem Table.modify_modify {n : Nat} {α : Type} (t : Table n α) (i : Fin n) (f g : α → α) :
    (t.modify i f).modify i g = t.modify i (fun a => g (f a)) := by
  apply Table.ext_get
  intro j
  simp only [Table.get_modify]
  split <;> rfl

end Sys2Proof

namespace Sys2Proof.Machine

theorem State.modWatch_modWatch (s : State) (d : District) (f g : Watch → Watch) :
    (s.modWatch d f).modWatch d g = s.modWatch d (fun w => g (f w)) :=
  congrArg (fun ws => ({ s with watches := ws } : State)) (Table.modify_modify s.watches d f g)

/-- A change that leaves the watch as it is leaves the state. -/
theorem State.modWatch_of_eq {s : State} {d : District} {f : Watch → Watch} (same : f (s.watch d) = s.watch d) : s.modWatch d f = s := by
  have table : s.watches.modify d f = s.watches := (congrArg (s.watches.set d) same).trans (Table.set_get _ d)
  rw [State.modWatch, table]

/-! ## District sets (R158) -/

theorem DistrictSet.has_add (x : DistrictSet) (d e : District) : (x.add d).has e = (x.has e || decide (e = d)) := by
  simp [DistrictSet.has, DistrictSet.add, Fin.ext_iff, eq_comm]

theorem DistrictSet.has_remove (x : DistrictSet) (d e : District) : (x.remove d).has e = (x.has e && decide (e ≠ d)) := by
  simp [DistrictSet.has, DistrictSet.remove, Fin.ext_iff, eq_comm]

/-- Removing a district that is not in a set leaves the set. -/
theorem DistrictSet.remove_of_not_has {x : DistrictSet} {d : District} (absent : x.has d = false) : x.remove d = x := by
  apply BitVec.eq_of_getLsbD_eq
  intro i small
  have bit : (x.remove d).has ⟨i, small⟩ = x.has ⟨i, small⟩ := by
    rw [DistrictSet.has_remove]
    by_cases here : (⟨i, small⟩ : District) = d
    · rw [here, absent]; rfl
    · simp [here]
  exact bit

/-! ## An alert change at one position (R164) -/

theorem Station.wantsKind_eq (st : Station) (a : Alert) : st.wantsKind a = a.inMask st.kindMask := by
  cases a <;> rfl

/-- The district of the change joins or leaves a subscriber's pending set by its kind mask; no other district and no other position is touched. -/
theorem Station.has_afterAlert (st : Station) (d : District) (a : Alert) (e : District) :
    (st.afterAlert d a).pendingSet.has e =
      if e = d ∧ st.role ≠ none ∧ st.subscription.has d = true then a.inMask st.kindMask else st.pendingSet.has e := by
  unfold Station.afterAlert
  rw [Station.wantsKind_eq]
  by_cases subscriber : st.role ≠ none ∧ st.subscription.has d = true
  · have reached : (st.occupied && st.subscription.has d) = true := by
      simpa [Station.occupied, Option.isSome_iff_ne_none] using subscriber
    rw [if_pos reached]
    by_cases here : e = d <;> cases wanted : a.inMask st.kindMask <;>
      simp [here, subscriber, DistrictSet.has_add, DistrictSet.has_remove]
  · have missed : ¬ (st.occupied && st.subscription.has d) = true := by
      simpa [Station.occupied, Option.isSome_iff_ne_none] using subscriber
    rw [if_neg missed, if_neg fun reached => subscriber reached.2]

/-- Where a pending district is always one that an occupied position subscribes to, an alert change leaves it pending at exactly the
subscribers whose mask takes the alert. -/
theorem Station.has_afterAlert_of_subscribed {st : Station} {d : District}
    (subscribed : st.pendingSet.has d = true → st.role ≠ none ∧ st.subscription.has d = true) (a : Alert) (e : District) :
    (st.afterAlert d a).pendingSet.has e =
      if e = d then decide (st.role ≠ none) && st.subscription.has d && a.inMask st.kindMask else st.pendingSet.has e := by
  rw [Station.has_afterAlert]
  by_cases subscriber : st.role ≠ none ∧ st.subscription.has d = true
  · simp [subscriber]
  · have absent : st.pendingSet.has d = false := Bool.eq_false_iff.2 (mt subscribed subscriber)
    have missed : (decide (st.role ≠ none) && st.subscription.has d) = false := by simpa using subscriber
    rw [if_neg fun reached => subscriber reached.2, missed, Bool.false_and]
    split
    next here => rw [here, absent]
    next => rfl

/-- An alert that becomes NONE touches no entry in which its district is not pending. -/
theorem Station.afterAlert_none_of_not_pending {st : Station} {d : District} (absent : st.pendingSet.has d = false) :
    st.afterAlert d .none = st := by
  have unwanted : st.wantsKind .none = false := rfl
  unfold Station.afterAlert
  rw [unwanted, DistrictSet.remove_of_not_has absent]
  split <;> rfl

/-! ## An alert change in the whole part (R141, R142, R167) -/

/-- The alert of `d` is CLEARED and no position holds `d` pending: R142 makes it NONE. -/
abbrev State.ClearedEnds (s : State) (d : District) : Prop :=
  (s.watch d).alert = .cleared ∧ ∀ p : Position, (s.station p).pendingSet.has d = false

theorem State.pendingSomewhere_eq_false_iff (s : State) (d : District) :
    s.pendingSomewhere d = false ↔ ∀ p : Position, (s.station p).pendingSet.has d = false := by
  simp [State.pendingSomewhere, mem_allPositions]

/-- A CLEARED alert pending nowhere ends with no pending set touched: only the alert and the note can change. -/
theorem State.endCleared_eq (s : State) (d : District) :
    s.endCleared d = { s.modWatch d (fun w => { w with alert := if s.ClearedEnds d then .none else w.alert }) with
      rqh.notice := if s.ClearedEnds d then s.rqh.notice.filter (fun n => decide (n.district ≠ d)) else s.rqh.notice } := by
  have test : ((s.watch d).alert = .cleared && !s.pendingSomewhere d) = true ↔ s.ClearedEnds d := by
    rw [State.ClearedEnds, ← State.pendingSomewhere_eq_false_iff]; simp
  unfold State.endCleared
  by_cases ends : s.ClearedEnds d
  · have untouched : s.stations.map (Station.afterAlert d .none) = s.stations :=
      Table.ext_get fun p => (Table.get_map _ _ p).trans (Station.afterAlert_none_of_not_pending (ends.2 p))
    simp only [if_pos (test.2 ends), if_pos ends, State.handOver, State.setAlert_stations, untouched]
    rfl
  · simp only [if_neg (mt test.1 ends), if_neg ends]
    rw [State.modWatch_of_eq rfl]

/-- An alert change is handed over, and then R142 can change the alert alone. -/
theorem State.alertChanged_eq (s : State) (d : District) :
    s.alertChanged d = (s.handOver d (s.watch d).alert).modWatch d (fun w =>
      { w with alert := if (s.handOver d (s.watch d).alert).ClearedEnds d then .none else w.alert }) := by
  have cancelled : (s.handOver d (s.watch d).alert).rqh.notice.filter (fun n => decide (n.district ≠ d)) =
      (s.handOver d (s.watch d).alert).rqh.notice := by
    simp [State.handOver, Option.filter_filter]
  rw [State.alertChanged, State.endCleared_eq, cancelled, ite_self]
  rfl

theorem State.alertChanged_station (s : State) (d : District) (p : Position) :
    (s.alertChanged d).station p = (s.station p).afterAlert d (s.watch d).alert := by
  rw [State.alertChanged_eq]; exact State.station_handOver s d _ p

theorem State.alertChanged_notice (s : State) (d : District) :
    (s.alertChanged d).rqh.notice = s.rqh.notice.filter (fun n => decide (n.district ≠ d)) := by
  rw [State.alertChanged_eq]; rfl

/-- The alert handed over stays, but for a CLEARED one that no position then holds pending. -/
theorem State.alertChanged_watch (s : State) (d : District) :
    (s.alertChanged d).watch d = { s.watch d with
      alert := if (s.watch d).alert = .cleared ∧ ∀ p : Position, ((s.alertChanged d).station p).pendingSet.has d = false then .none
               else (s.watch d).alert } := by
  simp only [State.alertChanged_station]
  rw [State.alertChanged_eq, State.watch_modWatch_self]
  simp only [State.ClearedEnds, State.station_handOver, State.handOver_watch]

/-- An alert given to a district that had another is handed over, and stays but for a CLEARED one that no position then holds pending. -/
theorem State.changeAlert_eq {s : State} {d : District} {a : Alert} (change : (s.watch d).alert ≠ a) :
    s.changeAlert d a = (s.handOver d a).modWatch d (fun w =>
      { w with alert := if a = .cleared ∧ ∀ q : Position, ((s.handOver d a).station q).pendingSet.has d = false then .none else a }) := by
  have given : ((s.setAlert d a).watch d).alert = a := by rw [State.setAlert, State.watch_modWatch_self]
  have either_order : (s.setAlert d a).handOver d a = (s.handOver d a).setAlert d a := rfl
  have ends : ((s.handOver d a).setAlert d a).ClearedEnds d ↔
      a = .cleared ∧ ∀ q : Position, ((s.handOver d a).station q).pendingSet.has d = false := by
    rw [State.ClearedEnds, State.setAlert, State.watch_modWatch_self]; rfl
  rw [State.changeAlert, if_neg change, State.alertChanged_eq, given, either_order]
  simp only [ends]
  exact (s.handOver d a).modWatch_modWatch d _ _

end Sys2Proof.Machine
end

section
/-!
PROOF. What a result does to the watch it is applied to (R143 to R149), and from this and the rules of alert changes the watch, the pending sets and
the note after an evaluation completes.
-/

namespace Sys2Proof.Machine

/-! ## A result applied to a watch (R143 to R149) -/

theorem Alert.afterUsable_eq (a : Alert) : a.afterUsable = if a = .dataLoss then .cleared else a := by
  cases a <;> rfl

/-- A gap is counted; at the gap limit an alert of NONE or CLEARED becomes DATA_LOSS (R144). -/
theorem Watch.after_unusable (ps : Params) (v : Verdict) (w : Watch) :
    w.after ps .unusable v =
      let g := min 255 (w.gap + 1)
      { w with gap := g, alert := if ps.gapLimit ≤ g ∧ (w.alert = .none ∨ w.alert = .cleared) then .dataLoss else w.alert } := by
  unfold Watch.after Watch.afterGap
  dsimp only
  rw [bump_eq_min_succ]
  by_cases limit : ps.gapLimit ≤ min 255 (w.gap + 1)
  · rw [if_pos limit]
    cases w.alert <;> simp [limit]
  · rw [if_neg limit, if_neg fun reached => limit reached.1]

/-- A PATCHED result is applied as a CLEAN one. -/
theorem Watch.after_of_usable {st : ResultStatus} (usable : st ≠ .unusable) (computed : st ≠ .skipped) (ps : Params) (v : Verdict) (w : Watch) :
    w.after ps st v = w.after ps .clean v := by
  cases st
  case clean | patched => rfl
  case unusable => exact absurd rfl usable
  case skipped => exact absurd rfl computed

/-- Without a verdict a QUIET or WATCH watch falls back to LEARNING (R145). -/
theorem Watch.after_none (ps : Params) (w : Watch) :
    w.after ps .clean .none =
      if w.state = .quiet ∨ w.state = .watch then { state := .learning, excess := 0, gap := 0, alert := w.alert.afterUsable }
      else { w with gap := 0, alert := w.alert.afterUsable } := by
  unfold Watch.after Watch.afterNone
  cases stage : w.state <;> simp

/-- What a verdict is applied to (R146). -/
theorem Watch.beforeVerdict_eq (w : Watch) :
    w.beforeVerdict =
      { state := if w.state = .learning then .quiet else w.state, excess := if w.state = .learning then 0 else w.excess
        gap := 0, alert := w.alert.afterUsable } := by
  unfold Watch.beforeVerdict
  cases stage : w.state <;> rfl

theorem Watch.after_burst (ps : Params) {w : Watch} (served : w.state ≠ .out) :
    w.after ps .clean .burst = { state := .alerted, excess := ps.nConfirm, gap := 0, alert := .burst } := by
  unfold Watch.after Watch.afterBurst
  dsimp only
  rw [Watch.beforeVerdict_eq]
  cases stage : w.state
  case out => exact absurd stage served
  all_goals rfl

/-- An excess night is counted up to N_confirm, where a calm watch is ALERTED with RISING (R148). -/
theorem Watch.after_excess (ps : Params) {w : Watch} (served : w.state ≠ .out) :
    w.after ps .clean .excess =
      let up := min ps.nConfirm ((if w.state = .learning then 0 else w.excess) + 1)
      if w.state = .alerted ∨ w.state = .acknowledged then { w with excess := up, gap := 0, alert := w.alert.afterUsable }
      else if ps.nConfirm ≤ up then { state := .alerted, excess := up, gap := 0, alert := .rising }
      else { state := .watch, excess := up, gap := 0, alert := w.alert.afterUsable } := by
  have counted (e : Nat) : (if ps.nConfirm < e + 1 then ps.nConfirm else e + 1) = min ps.nConfirm (e + 1) := by
    split <;> omega
  unfold Watch.after Watch.afterExcess
  dsimp only
  rw [Watch.beforeVerdict_eq]
  dsimp only
  rw [counted]
  cases stage : w.state
  case out => exact absurd stage served
  all_goals simp

/-- A normal night counts one off: an ALERTED watch at 0 is QUIET with its alert CLEARED, a WATCH watch at 0 is QUIET (R149). -/
theorem Watch.after_normal (ps : Params) {w : Watch} (served : w.state ≠ .out) :
    w.after ps .clean .normal =
      let down := (if w.state = .learning then 0 else w.excess) - 1
      if w.state = .acknowledged then { w with excess := down, gap := 0, alert := w.alert.afterUsable }
      else if w.state = .alerted then
        (if down = 0 then { state := .quiet, excess := 0, gap := 0, alert := .cleared }
         else { w with excess := down, gap := 0, alert := w.alert.afterUsable })
      else { state := if w.state = .watch ∧ down ≠ 0 then .watch else .quiet, excess := down, gap := 0, alert := w.alert.afterUsable } := by
  unfold Watch.after Watch.afterNormal
  dsimp only
  rw [Watch.beforeVerdict_eq]
  dsimp only
  cases stage : w.state
  case out => exact absurd stage served
  case watch | alerted => by_cases last : w.excess - 1 = 0 <;> simp [last]
  all_goals simp

/-! ## A result applied to the part (R141, R142, R143) -/

section
variable (s : State) (d : District) (st : ResultStatus) (v : Verdict)

theorem State.applyResult_station (p : Position) :
    (s.applyResult d st v).station p =
      if alertHanded (s.watch d) ((s.watch d).after (s.district d).params st v) = true then
        (s.station p).afterAlert d ((s.watch d).after (s.district d).params st v).alert
      else s.station p := by
  unfold State.applyResult
  dsimp only
  split
  · rw [State.alertChanged_station, State.watch_modWatch_self]; rfl
  · rfl

theorem State.applyResult_notice :
    (s.applyResult d st v).rqh.notice =
      if alertHanded (s.watch d) ((s.watch d).after (s.district d).params st v) = true then
        s.rqh.notice.filter (fun n => decide (n.district ≠ d))
      else s.rqh.notice := by
  unfold State.applyResult
  dsimp only
  split
  · exact State.alertChanged_notice _ d
  · rfl

/-- The watch is as the result leaves it, but for a CLEARED alert that no position then holds pending; where nothing is handed over, a CLEARED
alert was pending before and still is. -/
theorem State.applyResult_watch (pendingBefore : (s.watch d).alert = .cleared → ∃ p : Position, (s.station p).pendingSet.has d = true) :
    (s.applyResult d st v).watch d =
      let w := (s.watch d).after (s.district d).params st v
      { w with
        alert := if w.alert = .cleared ∧ ∀ p : Position, ((s.applyResult d st v).station p).pendingSet.has d = false then .none
                 else w.alert } := by
  unfold State.applyResult
  dsimp only
  split
  · rw [State.alertChanged_watch, State.watch_modWatch_self]
  next silent =>
    have kept : ((s.watch d).after (s.district d).params st v).alert = (s.watch d).alert := by
      simp only [alertHanded, Bool.or_eq_true, decide_eq_true_eq, not_or, not_not] at silent
      exact silent.1
    rw [State.watch_modWatch_self, if_neg]
    rintro ⟨cleared, nowhere⟩
    obtain ⟨p, pending⟩ := pendingBefore (kept ▸ cleared)
    exact Bool.false_ne_true ((nowhere p).symm.trans pending)

end

/-! ## The completion (R89) -/

/-- A computed result is never SKIPPED: it is UNUSABLE, PATCHED or CLEAN. -/
theorem Snapshot.result_not_skipped (sn : Snapshot) : sn.result.status ≠ .skipped := by
  by_cases usable : sn.unusable = none
  · rw [(Snapshot.result_of_usable usable).1]
    split <;> decide
  · rw [(Snapshot.result_of_unusable usable).1]; decide

/-- The state in which a completed result meets the Leak Watch: published, and offered to the Baseline Store. -/
def State.offered (s : State) (f : Flight) : State :=
  (s.recorded f.district f.snapshot.cellPressure f.snapshot.result).offer f.district f.snapshot.result

theorem State.settled_eq (s : State) (f : Flight) :
    s.settled f = (s.offered f).applyResult f.district f.snapshot.result.status f.snapshot.result.verdict :=
  s.settleResult_eq _ _ _

section
variable (s : State) (f : Flight)

theorem State.offered_watch (d : District) : (s.offered f).watch d = s.watch d := by
  rw [State.offered, State.offer_frame]; rfl

theorem State.offered_station (p : Position) : (s.offered f).station p = s.station p := by
  rw [State.offered, State.offer_frame]; rfl

theorem State.offered_rqh : (s.offered f).rqh = s.rqh := by
  rw [State.offered, State.offer_frame]; rfl

theorem State.offered_params : ((s.offered f).district f.district).params = (s.district f.district).params := by
  have unoffered : (s.offered f).district f.district =
      (s.recorded f.district f.snapshot.cellPressure f.snapshot.result).district f.district := by
    rw [State.offered, State.offer_frame]; rfl
  have record := s.district_modDistrict_self f.district fun x =>
    { x with heldPressure := f.snapshot.cellPressure.or x.heldPressure, result := some f.snapshot.result, nightState := .done }
  rw [unoffered.trans record]

end

/-- The night that may end with a completion raises flags: pending sets and the note of a TAKE NOTICE are as the result left them. -/
theorem State.completeEvaluation_pendingSet {s : State} {f : Flight} (flying : s.flight = some f) (p : Position) :
    (s.completeEvaluation.station p).pendingSet = ((s.settled f).station p).pendingSet := by
  have tested : s.completeEvaluation.station p = (s.settled f).nightEndTest.station p := by
    rw [State.completeEvaluation_eq flying]; rfl
  rw [tested, State.nightEndTest_station_flags Iff.rfl]

theorem State.completeEvaluation_notice {s : State} {f : Flight} (flying : s.flight = some f) :
    s.completeEvaluation.rqh.notice = (s.settled f).rqh.notice := by
  rw [State.completeEvaluation_eq flying, State.nightEndTest_frame]

/-- Settles O13: the result is applied to the watch as the verdict's rule says, an alert change is handed over to the subscribers, and the
night-end test after it touches neither. -/
theorem completionMovesTheWatchAndTellsTheStations : Obligations.CompletionMovesTheWatchAndTellsTheStations := by
  intro s f run flying notices served _ d r w limit confirm g e up down alert calm next handed
  obtain ⟨pendingBefore, -⟩ := notices
  have raised : w.state = .alerted ∨ w.state = .acknowledged ↔ calm = false := by
    rw [decide_eq_false_iff_not]
    cases stage : w.state
    case out => exact absurd stage served
    all_goals simp
  have moved : w.after (s.district d).params r.status r.verdict = next := by
    by_cases unusable : r.status = .unusable
    · rw [unusable, Watch.after_unusable]
      exact (if_pos unusable).symm
    · rw [Watch.after_of_usable unusable f.snapshot.result_not_skipped]
      refine Eq.trans ?_ (if_neg unusable).symm
      cases verdict : r.verdict with
      | none =>
        rw [Watch.after_none, Alert.afterUsable_eq]
      | burst =>
        rw [Watch.after_burst _ served]
      | excess =>
        rw [Watch.after_excess _ served, Alert.afterUsable_eq]
        exact if_congr raised rfl rfl
      | normal =>
        rw [Watch.after_normal _ served, Alert.afterUsable_eq]
  have told : alertHanded w next = handed := by
    simp only [alertHanded, handed, Bool.decide_or, Bool.decide_and]
  have before : (s.offered f).watch d = w := s.offered_watch f d
  have params : ((s.offered f).district d).params = (s.district d).params := s.offered_params f
  have station (p : Position) : (s.settled f).station p = if handed = true then (s.station p).afterAlert d next.alert else s.station p := by
    rw [State.settled_eq, State.applyResult_station, before, params, moved, told, State.offered_station]
  have pending (p : Position) : (s.completeEvaluation.station p).pendingSet = ((s.settled f).station p).pendingSet :=
    State.completeEvaluation_pendingSet flying p
  refine ⟨s.completeEvaluation, exec_evaluationCompletion run, ?_, fun p x other => ?_, fun p => ?_, ?_⟩
  · simp only [pending]
    rw [State.completeEvaluation_watch flying, State.settled_eq, State.applyResult_watch, before, params, moved]
    simpa only [State.offered_watch, State.offered_station] using pendingBefore d
  · rw [pending, station]
    split
    · rw [Station.has_afterAlert, if_neg fun reached => other reached.1]
    · rfl
  · rw [pending, station]
    by_cases tells : handed = true
    · rw [if_pos tells, Station.has_afterAlert]
      exact if_congr (and_congr_left' (iff_of_true rfl tells)) rfl rfl
    · rw [if_neg tells, if_neg fun reached => tells reached.1]
  · rw [State.completeEvaluation_notice flying, State.settled_eq, State.applyResult_notice, before, params, moved, told, State.offered_rqh]

end Sys2Proof.Machine
end

section
/-!
PROOF. ACKNOWLEDGE and MARK REPAIRED (R150 to R153): their rules do not look at the link, and what an accepted one makes of the watch, the
pending sets and the note of a TAKE NOTICE.
-/

namespace Sys2Proof.Machine

/-! ## The rules on the state that has received the message -/

theorem State.alertChanged_received (s : State) (d : District) (m : List Byte) :
    (s.received m).alertChanged d = (s.alertChanged d).received m := by
  rw [State.alertChanged_eq, State.alertChanged_eq]; rfl

theorem State.changeAlert_received (s : State) (d : District) (a : Alert) (m : List Byte) :
    (s.received m).changeAlert d a = (s.changeAlert d a).received m := by
  have given : (s.received m).setAlert d a = (s.setAlert d a).received m := rfl
  unfold State.changeAlert
  rw [State.received_watch, given, State.alertChanged_received]
  split <;> rfl

theorem State.acknowledge_received (s : State) (d : District) (m : List Byte) :
    (s.received m).acknowledge d = (s.acknowledge d).received m := by
  unfold State.acknowledge
  rw [State.received_watch, State.changeAlert_received]
  split <;> rfl

theorem State.markRepaired_received (s : State) (d : District) (m : List Byte) :
    (s.received m).markRepaired d = (s.markRepaired d).received m := by
  unfold State.markRepaired
  rw [← State.changeAlert_received]; rfl

theorem acknowledge_received (s : State) (p : Position) (body m : List Byte) :
    acknowledge (s.received m) p body = ((acknowledge s p body).1.received m, (acknowledge s p body).2) := by
  have locked (d : District) : (s.received m).lockedFor p d = s.lockedFor p d := rfl
  simp only [acknowledge, State.acknowledge_received, State.received_watch, locked]
  repeat' split
  all_goals rfl

theorem markRepaired_received (s : State) (p : Position) (body m : List Byte) :
    markRepaired (s.received m) p body = ((markRepaired s p body).1.received m, (markRepaired s p body).2) := by
  have locked (d : District) : (s.received m).lockedFor p d = s.lockedFor p d := rfl
  simp only [markRepaired, State.markRepaired_received, State.received_watch, locked]
  repeat' split
  all_goals rfl

/-! ## The two rows: LOCKED, STATE, and the effect (R150, R152) -/

/-- A byte with the number of a district names that district. -/
theorem districtOf_eq_some {b : Byte} {d : District} (named : b.toNat = d.1) : districtOf b = some d := by
  rw [districtOf, dif_pos (named ▸ d.2)]
  exact congrArg some (Fin.ext named)

theorem State.lockedFor_iff (s : State) (p : Position) (d : District) : s.lockedFor p d = true ↔ s.HeldByOther p d := by
  unfold State.lockedFor State.HeldByOther
  cases (s.district d).hold <;> rfl

section
variable {s : State} {p : Position} {r : StationRole} (asks : s.Asks p r) (right : r = .telemetry ∨ r = .service)
  {b : Byte} {d : District} (named : b.toNat = d.1)
include asks right named

theorem exec_acknowledge :
    exec (.acknowledge [b]) s = .next
      (if s.HeldByOther p d then s.refusal .acknowledge [b] .locked
       else if (s.watch d).state ≠ .alerted ∧ (s.watch d).alert ≠ .dataLoss then s.refusal .acknowledge [b] .state
       else (s.acknowledge d).answered .acknowledge [b] .ok ((s.acknowledge d).watch d).shortBytes) := by
  have allowed : mayRequest .acknowledge r = true := by simpa [mayRequest] using right
  rw [asks.exec_handled (k := .acknowledge) (body := [b]) (fun _ => rfl) (by simp) (acknowledge_received s p [b]), if_pos allowed]
  simp only [handle, acknowledge, readOne, districtOf_eq_some named, State.lockedFor_iff]
  split_ifs <;> rfl

theorem exec_markRepaired :
    exec (.markRepaired [b]) s = .next
      (if s.HeldByOther p d then s.refusal .markRepaired [b] .locked
       else if (s.watch d).state ≠ .alerted ∧ (s.watch d).state ≠ .acknowledged then s.refusal .markRepaired [b] .state
       else (s.markRepaired d).answered .markRepaired [b] .ok ((s.markRepaired d).watch d).shortBytes) := by
  have allowed : mayRequest .markRepaired r = true := by simpa [mayRequest] using right
  rw [asks.exec_handled (k := .markRepaired) (body := [b]) (fun _ => rfl) (by simp) (markRepaired_received s p [b]), if_pos allowed]
  simp only [handle, markRepaired, readOne, districtOf_eq_some named, State.lockedFor_iff]
  split_ifs <;> rfl

end

/-! ## ACKNOWLEDGE (R151, R165) -/

theorem State.station_dropPendingAll (s : State) (d : District) (q : Position) :
    (s.dropPendingAll d).station q = { s.station q with pendingSet := (s.station q).pendingSet.remove d } := Table.get_map _ _ q

section
variable {s : State} {d : District}

theorem State.acknowledge_of_alerted (alerted : (s.watch d).state = .alerted) :
    s.acknowledge d = (s.modWatch d (fun w => { w with state := .acknowledged })).dropPendingAll d := if_pos alerted

/-- A DATA_LOSS alert that is acknowledged is none, and that change is handed over. -/
theorem State.acknowledge_of_dataLoss (calm : (s.watch d).state ≠ .alerted) (lost : (s.watch d).alert = .dataLoss) :
    s.acknowledge d = (s.handOver d .none).modWatch d (fun w => { w with alert := .none }) := by
  rw [State.acknowledge, if_neg calm, State.changeAlert_eq (by rw [lost]; decide)]
  simp

variable (accepted : ¬ ((s.watch d).state ≠ .alerted ∧ (s.watch d).alert ≠ .dataLoss))
include accepted

theorem State.acknowledge_effect :
    s.acknowledge d =
      { s.modWatch d (fun _ =>
          if (s.watch d).state = .alerted then { s.watch d with state := .acknowledged } else { s.watch d with alert := .none }) with
        stations := (s.acknowledge d).stations
        rqh.notice :=
          if (s.watch d).state = .alerted then s.rqh.notice else s.rqh.notice.filter (fun n => decide (n.district ≠ d)) } := by
  by_cases alerted : (s.watch d).state = .alerted
  · rw [State.acknowledge_of_alerted alerted, if_pos alerted, if_pos alerted]; rfl
  · have lost := not_not.1 fun other => accepted ⟨alerted, other⟩
    rw [State.acknowledge_of_dataLoss alerted lost, if_neg alerted, if_neg alerted]; rfl

/-- The acknowledged district is pending nowhere, and nothing else of a station entry changes. -/
theorem State.acknowledge_station
    (subscribed : ∀ q : Position, (s.station q).pendingSet.has d = true → (s.station q).role ≠ none ∧ (s.station q).subscription.has d = true)
    (q : Position) :
    (s.acknowledge d).station q = { s.station q with pendingSet := ((s.acknowledge d).station q).pendingSet } ∧
    ∀ e : District, ((s.acknowledge d).station q).pendingSet.has e = ((s.station q).pendingSet.has e && decide (e ≠ d)) := by
  by_cases alerted : (s.watch d).state = .alerted
  · have removed : (s.acknowledge d).station q = { s.station q with pendingSet := (s.station q).pendingSet.remove d } := by
      rw [State.acknowledge_of_alerted alerted]; exact State.station_dropPendingAll _ d q
    rw [removed]
    exact ⟨rfl, DistrictSet.has_remove _ d⟩
  · have lost := not_not.1 fun other => accepted ⟨alerted, other⟩
    have told : (s.acknowledge d).station q = (s.station q).afterAlert d .none := by
      rw [State.acknowledge_of_dataLoss alerted lost]; exact State.station_handOver s d _ q
    rw [told]
    refine ⟨Station.afterAlert_frame d _ _, fun e => ?_⟩
    rw [Station.has_afterAlert_of_subscribed (subscribed q)]
    by_cases here : e = d <;> simp [here, Alert.inMask]

end

/-! ## MARK REPAIRED (R153) -/

/-- The watch that MARK REPAIRED leaves before its alert changes, baseline B being present or not. -/
def Watch.repaired (ready : Bool) (w : Watch) : Watch := { w with state := if ready then .quiet else .learning, excess := 0 }

/-- Position `q` is subscribed to `d` and its kind mask takes CLEARED. -/
def State.takesCleared (s : State) (d : District) (q : Position) : Bool :=
  decide ((s.station q).role ≠ none) && (s.station q).subscription.has d && (s.station q).kindMask.getLsbD 3

section
variable {s : State} {d : District} (alerting : (s.watch d).alert ≠ .cleared)
include alerting

/-- The watch is rewritten, its district ready or not, and the alert CLEARED handed over; R142 then looks at what the stations made of it. -/
theorem State.markRepaired_eq :
    s.markRepaired d = (s.handOver d .cleared).modWatch d (fun w =>
      { w.repaired (s.baseline d).b.isSome with
        alert := if ∀ q : Position, ((s.handOver d .cleared).station q).pendingSet.has d = false then .none else .cleared }) := by
  have repaired : s.markRepaired d = (s.modWatch d (Watch.repaired (s.baseline d).b.isSome)).changeAlert d .cleared := rfl
  have change : ((s.modWatch d (Watch.repaired (s.baseline d).b.isSome)).watch d).alert ≠ .cleared := by
    rw [State.watch_modWatch_self]; exact alerting
  have either_order : (s.modWatch d (Watch.repaired (s.baseline d).b.isSome)).handOver d .cleared =
      (s.handOver d .cleared).modWatch d (Watch.repaired (s.baseline d).b.isSome) := rfl
  rw [repaired, State.changeAlert_eq change, either_order]
  simp only [true_and, State.modWatch_station]
  exact (s.handOver d .cleared).modWatch_modWatch d _ _

theorem State.markRepaired_station (q : Position) : (s.markRepaired d).station q = (s.station q).afterAlert d .cleared := by
  rw [State.markRepaired_eq alerting]; exact State.station_handOver s d _ q

variable (subscribed : ∀ q : Position,
  (s.station q).pendingSet.has d = true → (s.station q).role ≠ none ∧ (s.station q).subscription.has d = true)
include subscribed

/-- The repaired district is pending at exactly the positions that take CLEARED. -/
theorem State.markRepaired_has (q : Position) (e : District) :
    ((s.markRepaired d).station q).pendingSet.has e = if e = d then s.takesCleared d q else (s.station q).pendingSet.has e := by
  rw [State.markRepaired_station alerting]
  exact Station.has_afterAlert_of_subscribed (subscribed q) .cleared e

theorem State.markRepaired_effect :
    s.markRepaired d =
      { s.modWatch d (fun _ =>
          { state := if (s.baseline d).b = none then .learning else .quiet, excess := 0, gap := (s.watch d).gap
            alert := if ∃ q : Position, s.takesCleared d q = true then .cleared else .none }) with
        stations := (s.markRepaired d).stations
        rqh.notice := s.rqh.notice.filter (fun n => decide (n.district ≠ d)) } := by
  have taken (q : Position) : ((s.handOver d .cleared).station q).pendingSet.has d = s.takesCleared d q := by
    rw [State.station_handOver, Station.has_afterAlert_of_subscribed (subscribed q), if_pos rfl]; rfl
  have alert : (if ∀ q : Position, ((s.handOver d .cleared).station q).pendingSet.has d = false then Alert.none else .cleared) =
      if ∃ q : Position, s.takesCleared d q = true then .cleared else .none := by
    simp only [taken, ← Bool.not_eq_true, ← not_exists]
    exact ite_not ..
  have repaired : (s.watch d).repaired (s.baseline d).b.isSome =
      { s.watch d with state := if (s.baseline d).b = none then .learning else .quiet, excess := 0 } := by
    unfold Watch.repaired
    cases (s.baseline d).b <;> rfl
  have written (f : Watch → Watch) : (s.handOver d .cleared).modWatch d f = (s.handOver d .cleared).modWatch d (fun _ => f (s.watch d)) := rfl
  rw [State.markRepaired_eq alerting, alert, written]
  dsimp only
  rw [repaired]
  rfl

end

/-- Settles O51: each row is its checks in order and then its effect; the watch's own consistency (R137, R138) says that the alert of an ALERTED or
ACKNOWLEDGED watch is not CLEARED, so MARK REPAIRED always changes it. -/
theorem acknowledgeAndMarkRepaired : Obligations.AcknowledgeAndMarkRepaired := by
  intro s p r d b asks right named notices consistent
  obtain ⟨-, pendingLaw⟩ := notices
  obtain ⟨-, -, -, -, -, -, raised⟩ := consistent
  have subscribed (q : Position) (pending : (s.station q).pendingSet.has d = true) :
      (s.station q).role ≠ none ∧ (s.station q).subscription.has d = true :=
    have ⟨role, subscription, _⟩ := pendingLaw q d pending
    ⟨role, subscription⟩
  dsimp only
  rw [exec_acknowledge asks right named, exec_markRepaired asks right named]
  by_cases locked : s.HeldByOther p d
  · simp only [if_pos locked, and_self]
  simp only [if_neg locked]
  constructor
  · by_cases refused : (s.watch d).state ≠ .alerted ∧ (s.watch d).alert ≠ .dataLoss
    · simp only [if_pos refused]
    · simp only [if_neg refused]
      have station := State.acknowledge_station refused subscribed
      exact ⟨_, rfl, congrArg (State.answered · .acknowledge [b] .ok ((s.acknowledge d).watch d).shortBytes) (State.acknowledge_effect refused),
        fun q => (station q).1, fun q => (station q).2⟩
  · by_cases refused : (s.watch d).state ≠ .alerted ∧ (s.watch d).state ≠ .acknowledged
    · simp only [if_pos refused]
    · simp only [if_neg refused]
      have alerting : (s.watch d).alert ≠ .cleared := by
        rcases raised (by tauto) with rising | burst
        · rw [rising]; decide
        · rw [burst]; decide
      have station (q : Position) : (s.markRepaired d).station q =
          { s.station q with pendingSet := ((s.markRepaired d).station q).pendingSet } := by
        rw [State.markRepaired_station alerting]; exact Station.afterAlert_frame d _ _
      exact ⟨_, rfl, congrArg (State.answered · .markRepaired [b] .ok ((s.markRepaired d).watch d).shortBytes)
        (State.markRepaired_effect alerting subscribed), station, State.markRepaired_has alerting subscribed⟩

end Sys2Proof.Machine
end

section
/-!
PROOF. A request whose rule is made on the state that has received its message, and CLEAR COUNTERS (R173).
-/

namespace Sys2Proof.Machine

/-- A request row of a role that holds the right is its rule on the state that has received the message, and then the answer. -/
theorem State.Asks.exec_ruled {s t : State} {p : Position} {r : StationRole} (asks : s.Asks p r) {c : Instr} {k : Kind} {body : List Byte}
    (row : ∀ u, exec c u = taken (fun v => v.request k body) u) (fits : body.length ≤ 61) (right : mayRequest k r = true)
    {st : Status} {out : List Byte} (rule : ∀ m, handle k (s.received m) p body = (t.received m, ⟨st, out⟩)) :
    exec c s = .next (t.answered k body st out) := by
  have ⟨run, _⟩ := asks
  rw [row, taken, if_pos run, asks.request_eq k body fits, if_pos right, rule]
  exact congrArg _ (State.startAnswer_received t k body fits st out)

/-- A request row of a role that does not hold the right is refused ROLE. -/
theorem State.Asks.exec_noRight {s : State} {p : Position} {r : StationRole} (asks : s.Asks p r) {c : Instr} {k : Kind} {body : List Byte}
    (row : ∀ u, exec c u = taken (fun v => v.request k body) u) (fits : body.length ≤ 61) (noRight : ¬ mayRequest k r = true) :
    exec c s = .next (s.refusal k body .role) := by
  have ⟨run, _⟩ := asks
  rw [row, taken, if_pos run, asks.request_eq k body fits, if_neg noRight]

/-! ## The counters when an answer is abandoned (R171, R188, R189) -/

theorem State.endGrant_counters (s : State) : s.endGrant.counters = s.counters := by rw [State.endGrant_frame]

theorem State.timeOut_counters (s : State) :
    s.timeOut.counters = { s.counters with handshakeTimeouts := bump 65535 s.counters.handshakeTimeouts } := by
  rw [State.timeOut_frame]

/-- A break that ends a grant leaves the counters. -/
theorem State.after_breakEndsGrant_counters (s : State) : (s.after [.breakEndsGrant]).counters = s.counters := by
  rw [State.after_taken (c := .breakEndsGrant) fun _ => rfl, frameRow_eq]
  split
  · split
    · exact State.endGrant_counters _
    · rfl
  · rfl

/-- A step that waits on the station and times out counts one handshake timeout. -/
theorem State.after_handshakeTimeout_counters {s : State} (run : s.running = true) (timed : s.link.timedStep = true) :
    (s.after [.handshakeTimeout]).counters = { s.counters with handshakeTimeouts := bump 65535 s.counters.handshakeTimeouts } := by
  rw [State.after_taken (c := .handshakeTimeout) fun _ => rfl, if_pos run, quietRow_eq, if_pos timed]
  exact State.timeOut_counters _

/-! ## CLEAR COUNTERS (R173) -/

theorem mayRequest_clearCounters (r : StationRole) : mayRequest .clearCounters r = true ↔ r = .telemetry := decide_eq_true_iff

/-- Settles O54: the request is its rule, every answer is timed (R188), and neither end of a grant touches any other counter. -/
theorem clearCountersZeroesAllNine : Obligations.ClearCountersZeroesAllNine := by
  intro s p r asks
  have ⟨run, _⟩ := asks
  refine ⟨fun other => ⟨?_, rfl⟩, fun telemetry => ?_⟩
  · exact asks.exec_noRight (fun _ => rfl) (Nat.zero_le _) (mt (mayRequest_clearCounters r).1 other)
  · refine ⟨_, asks.exec_ruled (t := { s with counters := zeroCounters }) (fun _ => rfl) (Nat.zero_le _)
      ((mayRequest_clearCounters r).2 telemetry) (fun _ => rfl), rfl, ?_, ?_⟩
    · rw [State.after_breakEndsGrant_counters]; rfl
    · rw [State.after_handshakeTimeout_counters (by exact run) rfl]; rfl

end Sys2Proof.Machine
end

section
/-!
PROOF. The bytes of the answers as the manual words them (R196 to R198), and the eight reads (R36, R37, R80, R81, R84, R134, R157, R172).
-/

namespace Sys2Proof.Machine

/-! ## Bytes made of bits -/

theorem byte_two_bits (a b : Bool) : byte (a.toNat + 2 * b.toNat) = (if a then 1#8 else 0#8) ||| (if b then 2#8 else 0#8) := by
  decide +revert

theorem byte_three_bits (a b c : Bool) :
    byte (a.toNat + 2 * b.toNat + 4 * c.toNat) = (if a then 1#8 else 0#8) ||| (if b then 2#8 else 0#8) ||| (if c then 4#8 else 0#8) := by
  decide +revert

theorem byte_four_bits (a b c d : Bool) :
    byte (a.toNat + 2 * b.toNat + 4 * c.toNat + 8 * d.toNat) =
      (if a then 1#8 else 0#8) ||| (if b then 2#8 else 0#8) ||| (if c then 4#8 else 0#8) ||| (if d then 8#8 else 0#8) := by
  decide +revert

/-- Three bits and, in the high half, an address. -/
theorem byte_bits_address (a b c : Bool) (n : BitVec 4) :
    byte (a.toNat + 2 * b.toNat + 4 * c.toNat + 16 * n.toNat) =
      n ++ 0#1 ++ BitVec.ofBool c ++ BitVec.ofBool b ++ BitVec.ofBool a := by
  decide +revert

/-- One bit for each position. -/
theorem byte_positions (a b c d : Bool) :
    byte (([if a then 1 else 0, if b then 2 else 0, if c then 4 else 0, if d then 8 else 0] : List Nat).sum) =
      0#4 ++ BitVec.ofBool d ++ BitVec.ofBool c ++ BitVec.ofBool b ++ BitVec.ofBool a := by
  decide +revert

/-- The two marks of a queue entry above its district. -/
theorem byte_marks_district (held grace : Bool) (d : District) :
    byte (64 * held.toNat + 32 * grace.toNat + d.1) = (if held then 64#8 else 0#8) ||| (if grace then 32#8 else 0#8) ||| byte d.1 := by
  decide +revert

/-- A flag given by an optional field that is present. -/
theorem flag_of_isSome {α : Type} (o : Option α) (k : Byte) : (if o.isSome then k else 0#8) = if o = none then 0#8 else k := by
  cases o <;> rfl

/-! ## The answers of the Meter Directory (R36, R37) -/

/-- The state of a cell in bits 23 and 22 of its three bytes. -/
theorem CellState.code_shifted (x : CellState) :
    x.code * 4194304 = (match x with
      | .empty => 0
      | .good => 4194304
      | .estimated => 8388608) := by
  cases x <;> rfl

theorem Cell.bytes_eq (c : Cell) :
    c.bytes = be24 ((match c.state with
      | .empty => 0
      | .good => 4194304
      | .estimated => 8388608) + c.volume) := by
  rw [Cell.bytes, CellState.code_shifted]

theorem Slot.bytes_eq (sl : Slot) :
    sl.bytes = be32 sl.identifier ++
      [(if sl.enabled then 1#8 else 0#8) ||| (if sl.protect then 2#8 else 0#8), linkByte sl.primary, linkByte sl.secondary] ++
      be24 ((sl.heldMean.map (· + 8388608)).getD 0) ++ [byte sl.duplicates, byte sl.conflicts] ++ sl.cells.1.flatMap Cell.bytes := by
  unfold Slot.bytes
  rw [byte_two_bits]
  cases sl.heldMean with
  | none => rfl
  | some m => rw [Option.map_some, Option.getD_some, Nat.add_comm m]

/-! ## The answers of the District Table and of the Evaluation Queue (R80, R81, R84) -/

theorem State.districtBytes_eq (s : State) (d : District) :
    s.districtBytes d = (s.district d).params.bytes ++
      [(((s.district d).hold.map (fun h => (s.station h.holder).address)).getD 0#4) ++ 0#1 ++
          BitVec.ofBool (s.district d).heldPressure.isSome ++ BitVec.ofBool (s.district d).hold.isSome ++
          BitVec.ofBool (s.district d).inService, (s.district d).nightState.code] ++
      be16 (((s.district d).hold.map s.remaining).getD 0) ++ be16 ((s.district d).heldPressure.getD 0) := by
  simp only [State.districtBytes, ← byte_bits_address]
  cases (s.district d).hold <;> rfl

theorem ResultFlags.code_eq (f : ResultFlags) :
    f.code = (if f.uncorrected then 1#8 else 0#8) ||| (if f.pressureHeld then 2#8 else 0#8) |||
      (if f.pressureClamped then 4#8 else 0#8) ||| (if f.figureClamped then 8#8 else 0#8) := byte_four_bits _ _ _ _

theorem Result.presence_eq (r : Result) :
    r.presence = (if r.figures.isSome then 1#8 else 0#8) ||| (if (r.figures.bind (·.pUsed)).isSome then 2#8 else 0#8) |||
      (if (r.figures.bind (·.compared)).isSome then 4#8 else 0#8) := by
  unfold Result.presence
  cases r.figures with
  | none => rfl
  | some f => exact byte_three_bits true f.pUsed.isSome f.compared.isSome

/-- The figures of a result, those it does not carry as zeros (R191). -/
theorem Result.bytes_eq (r : Result) :
    r.bytes = be16 r.nightDay ++ [r.status.code, reasonCode r.reason, r.flags.code, r.presence] ++ be16 r.slotsUsed ++
      be16 r.cellsSubstituted ++ beSigned32 ((r.figures.map (·.nf)).getD 0) ++ [byte ((r.figures.map (·.minInterval)).getD 0)] ++
      be16 ((r.figures.bind (·.pUsed)).getD 0) ++ be32 ((r.figures.map (·.f)).getD 0) ++ beSigned32 ((r.figures.map (·.c)).getD 0) ++
      beSigned32 (((r.figures.bind (·.compared)).map (·.b)).getD 0) ++ beSigned32 (((r.figures.bind (·.compared)).map (·.t)).getD 0) ++
      beSigned32 (((r.figures.bind (·.compared)).map (·.x)).getD 0) ++ [r.verdict.code] := by
  unfold Result.bytes
  cases r.figures with
  | none => rfl
  | some f =>
    simp only [Option.bind_some, Option.map_some, Option.getD_some, List.append_assoc]
    cases f.compared <;> rfl

theorem State.entryByte_eq (s : State) (e : QueueEntry) :
    s.entryByte e = (if (s.district e.district).hold = none then 0#8 else 64#8) |||
      (if e.reason = .grace then 32#8 else 0#8) ||| byte e.district.1 := by
  have reason : e.reason.code = (decide (e.reason = .grace)).toNat := by cases e.reason <;> rfl
  rw [State.entryByte, reason, byte_marks_district, flag_of_isSome]
  simp only [decide_eq_true_eq]

/-! ## The answers of the Baseline Store, of the Leak Watch and of the Request Handler (R134, R157, R172) -/

theorem byte_isSome {α : Type} (o : Option α) : byte o.isSome.toNat = if o = none then 0#8 else 1#8 := by
  cases o <;> rfl

theorem State.byte_pendingPositions (s : State) (d : District) :
    byte (s.pendingPositions d) =
      0#4 ++ BitVec.ofBool ((s.station 3).pendingSet.has d) ++ BitVec.ofBool ((s.station 2).pendingSet.has d) ++
        BitVec.ofBool ((s.station 1).pendingSet.has d) ++ BitVec.ofBool ((s.station 0).pendingSet.has d) :=
  byte_positions _ _ _ _

/-! ## The eight rows -/

section
variable {s : State} {p : Position} {r : StationRole} (asks : s.Asks p r)
include asks

theorem exec_readMeter {y : Byte} {i : SlotIndex} (named : y.toNat = i.1) :
    exec (.readMeter [y]) s = .next (s.answered .readMeter [y] .ok (s.slot i).bytes) := by
  have slot : slotOf y = i := Fin.ext named
  exact slot ▸ asks.exec_ruled (k := .readMeter) (fun _ => rfl) (by simp) rfl fun _ => rfl

theorem exec_readStrayList :
    exec (.readStrayList []) s =
      .next (s.answered .readStrayList [] .ok (byte s.strays.length :: s.strays.flatMap Stray.bytes)) :=
  asks.exec_ruled (k := .readStrayList) (fun _ => rfl) (Nat.zero_le _) rfl fun _ => rfl

theorem exec_readQueue :
    exec (.readQueue []) s = .next (s.answered .readQueue [] .ok
      (((s.flight.map (fun f => byte (128 + f.district.1))).getD 0#8) :: byte s.queue.length :: s.queue.map s.entryByte)) := by
  refine asks.exec_ruled (k := .readQueue) (fun _ => rfl) (Nat.zero_le _) rfl fun _ => ?_
  rw [handle, readQueue, State.received_flight]
  cases s.flight <;> rfl

theorem exec_readStatus :
    exec (.readStatus []) s = .next (s.answered .readStatus [] .ok
      ([s.nck.phase.code] ++ be16 s.nck.clock.day ++ be16 s.nck.clock.minute ++
       [(if s.nck.clockSet then 1#8 else 0#8) ||| (if s.nck.nightDay = none then 0#8 else 2#8) ||| (if s.flight = none then 0#8 else 4#8)] ++
       be16 (s.nck.nightDay.getD 0) ++ [byte s.queue.length, (s.flight.map (fun f => byte f.district.1)).getD 0#8] ++
       s.counters.bytes)) := by
  refine asks.exec_ruled (k := .readStatus) (fun _ => rfl) (Nat.zero_le _) rfl fun _ => ?_
  rw [handle, readStatus, byte_three_bits, flag_of_isSome, flag_of_isSome, State.received_flight]
  cases s.flight <;> rfl

variable {b : Byte} {d : District} (named : b.toNat = d.1)
include named

theorem exec_readDistrict : exec (.readDistrict [b]) s = .next (s.answered .readDistrict [b] .ok (s.districtBytes d)) := by
  refine asks.exec_ruled (k := .readDistrict) (fun _ => rfl) (by simp) rfl fun _ => ?_
  simp only [handle, readDistrict, readOne, districtOf_eq_some named]
  rfl

theorem exec_readResult :
    exec (.readResult [b]) s = .next (s.answered .readResult [b] .ok
      (((s.district d).result.map (fun z => 1#8 :: z.bytes)).getD [0#8])) := by
  refine asks.exec_ruled (k := .readResult) (fun _ => rfl) (by simp) rfl fun _ => ?_
  simp only [handle, readResult, readOne, districtOf_eq_some named, State.received_district]
  cases (s.district d).result <;> rfl

theorem exec_readRing : exec (.readRing [b]) s = .next (s.answered .readRing [b] .ok (s.baseline d).bytes) := by
  refine asks.exec_ruled (k := .readRing) (fun _ => rfl) (by simp) rfl fun _ => ?_
  simp only [handle, readRing, readOne, districtOf_eq_some named]
  rfl

theorem exec_readWatch :
    exec (.readWatch [b]) s = .next (s.answered .readWatch [b] .ok
      [(s.watch d).state.code, byte (s.watch d).excess, byte (s.district d).params.nConfirm, byte (s.watch d).gap,
       byte (s.district d).params.gapLimit, (s.watch d).alert.code, byte (s.pendingPositions d)]) := by
  refine asks.exec_ruled (k := .readWatch) (fun _ => rfl) (by simp) rfl fun _ => ?_
  simp only [handle, readWatch, readOne, districtOf_eq_some named]
  rfl

end

/-- Settles O55: each read is its row, and the bytes of each answer are those of the layouts. -/
theorem readsReportTheState : Obligations.ReadsReportTheState := by
  intro s p r d i b y asks district slot x v bl w stateOf minutes
  have cells : Cell.bytes = fun c => be24 (stateOf c + c.volume) := funext Cell.bytes_eq
  refine ⟨?_, exec_readStrayList asks, ?_, ?_, ?_, ?_, ?_, ?_⟩
  · rw [exec_readMeter asks slot, Slot.bytes_eq, cells]
  · rw [exec_readDistrict asks district, State.districtBytes_eq]; rfl
  · rw [exec_readResult asks district]
    simp only [v]
    cases (s.district d).result with
    | none => rfl
    | some z => rw [Option.map_some, Option.getD_some, Result.bytes_eq, ResultFlags.code_eq, Result.presence_eq]; rfl
  · rw [exec_readQueue asks, funext (State.entryByte_eq s)]
  · rw [exec_readRing asks district, Baseline.bytes, byte_isSome]; rfl
  · rw [exec_readWatch asks district, State.byte_pendingPositions]
  · rw [exec_readStatus asks]; simp only [Counters.bytes, List.append_assoc]

end Sys2Proof.Machine
end

section
/-!
PROOF. TAKE NOTICE and its choice, READ EVENTS, SET EVENT MASK, and the stations that CONFIG_CHANGED reaches (R163, R166, R168, R169, R197).
-/

namespace Sys2Proof.Machine

/-! ## The choice of a TAKE NOTICE (R166) -/

/-- The first index that passes a test is the one that passes with none below it passing. -/
theorem find?_finRange_eq_some {n : Nat} {test : Fin n → Bool} {i : Fin n} (passes : test i = true)
    (first : ∀ j, test j = true → i ≤ j) : (List.finRange n).find? test = some i := by
  rw [List.find?_eq_some_iff_getElem]
  refine ⟨passes, i.1, by simp, by simp, fun j below => ?_⟩
  have small : ¬ i ≤ ⟨j, below.trans i.2⟩ := Nat.not_le.2 below
  simpa using mt (first _) small

/-- The pending district of kind `k` that a TAKE NOTICE of position `p` takes, if no higher kind is pending. -/
def State.firstOfKind (s : State) (p : Position) (k : Alert) : Option District :=
  allDistricts.find? (fun d => (s.station p).pendingSet.has d && decide ((s.watch d).alert = k))

theorem State.noticeChoice_eq (s : State) (p : Position) :
    s.noticeChoice p = [Alert.burst, Alert.rising, Alert.dataLoss, Alert.cleared].findSome? (s.firstOfKind p) := rfl

theorem State.firstOfKind_eq_none_iff (s : State) (p : Position) (k : Alert) :
    s.firstOfKind p k = none ↔ ∀ d : District, (s.station p).pendingSet.has d = true → (s.watch d).alert ≠ k := by
  simp [State.firstOfKind, mem_allDistricts]

/-- Pending district `d` stands before every other pending district in the ranking of R166. -/
abbrev State.Foremost (s : State) (p : Position) (d : District) : Prop :=
  ∀ e : District, (s.station p).pendingSet.has e = true →
    (s.watch e).alert.urgency < (s.watch d).alert.urgency ∨ ((s.watch e).alert.urgency = (s.watch d).alert.urgency ∧ d ≤ e)

section
variable {s : State} {p : Position} {d : District}

/-- No kind above that of the foremost district is pending. -/
theorem State.Foremost.firstOfKind_eq_none (foremost : s.Foremost p d) {k : Alert} (above : (s.watch d).alert.urgency < k.urgency) :
    s.firstOfKind p k = none := by
  rw [State.firstOfKind_eq_none_iff]
  rintro e pending rfl
  have := foremost e pending
  omega

/-- The foremost district is the first of its kind. -/
theorem State.Foremost.firstOfKind_eq_some (foremost : s.Foremost p d) (pending : (s.station p).pendingSet.has d = true) :
    s.firstOfKind p (s.watch d).alert = some d := by
  refine find?_finRange_eq_some (by simpa using pending) fun e sameKind => ?_
  obtain ⟨also, kind⟩ := (Bool.and_eq_true _ _).mp sameKind
  rcases foremost e also with lower | ⟨-, before⟩
  · rw [of_decide_eq_true kind] at lower; omega
  · exact before

/-- A TAKE NOTICE takes the foremost district: the kinds above its own are passed over, and it is the first of its own. -/
theorem State.Foremost.noticeChoice_eq (foremost : s.Foremost p d) (pending : (s.station p).pendingSet.has d = true)
    (alerting : (s.watch d).alert ≠ .none) : s.noticeChoice p = some d := by
  have own := foremost.firstOfKind_eq_some pending
  have above (k : Alert) := foremost.firstOfKind_eq_none (k := k)
  rw [State.noticeChoice_eq]
  cases kind : (s.watch d).alert with
  | none => exact absurd kind alerting
  | burst => rw [kind] at own; simp [own]
  | rising => rw [kind] at own above; simp [own, above .burst (by decide)]
  | dataLoss => rw [kind] at own above; simp [own, above .burst (by decide), above .rising (by decide)]
  | cleared => rw [kind] at own above; simp [own, above .burst (by decide), above .rising (by decide), above .dataLoss (by decide)]

end

/-- Nothing is chosen from an empty pending set. -/
theorem State.noticeChoice_of_empty {s : State} {p : Position} (empty : (s.station p).pendingSet = 0#32) : s.noticeChoice p = none := by
  rw [State.noticeChoice_eq, List.findSome?_eq_none_iff]
  intro k _
  rw [State.firstOfKind_eq_none_iff, empty]
  intro d pending
  simp [DistrictSet.has] at pending

/-! ## The figures of a notice (R197) -/

/-- The presence byte of a notice: B and X come together. -/
theorem byte_notice_presence (a b c : Bool) :
    byte (a.toNat + 2 * b.toNat + 4 * c.toNat + 8 * c.toNat) =
      (if a then 1#8 else 0#8) ||| (if b then 2#8 else 0#8) ||| (if c then 12#8 else 0#8) := by
  decide +revert

theorem State.noticeBytes_eq (s : State) (d : District) :
    s.noticeBytes d =
      let x := (s.district d).result
      let g := x.bind (·.figures)
      let c := g.bind (·.compared)
      [byte d.1, (s.watch d).alert.code, (s.watch d).state.code, byte (s.watch d).excess,
        (if x.isSome then 1#8 else 0#8) ||| (if g.isSome then 2#8 else 0#8) ||| (if c.isSome then 12#8 else 0#8)] ++
      be16 ((x.map (·.nightDay)).getD 0) ++ beSigned32 ((g.map (·.c)).getD 0) ++ beSigned32 ((c.map (·.b)).getD 0) ++
      beSigned32 ((c.map (·.x)).getD 0) := by
  simp only [← byte_notice_presence]
  rfl

/-! ## The three rows (R163, R166, R169) -/

/-- The five event flags, or a mask of them, sent as a byte (R198). -/
theorem byte_toNat_eq (x : BitVec 5) : byte x.toNat = 0#3 ++ x := by decide +revert

section
variable {s : State} {p : Position} {r : StationRole} (asks : s.Asks p r)
include asks

theorem exec_takeNotice_of_none (nothing : s.noticeChoice p = none) :
    exec (.takeNotice []) s = .next (s.refusal .takeNotice [] .nonePending) := by
  refine asks.exec_ruled (k := .takeNotice) (fun _ => rfl) (Nat.zero_le _) rfl fun m => ?_
  have same : (s.received m).noticeChoice p = none := nothing
  simp only [handle, takeNotice, same]
  rfl

theorem exec_takeNotice_of_some {d : District} (chosen : s.noticeChoice p = some d) :
    exec (.takeNotice []) s =
      .next (State.answered { s with rqh.notice := some ⟨p, d⟩ } .takeNotice [] .ok (s.noticeBytes d)) := by
  refine asks.exec_ruled (k := .takeNotice) (fun _ => rfl) (Nat.zero_le _) rfl fun m => ?_
  have same : (s.received m).noticeChoice p = some d := chosen
  simp only [handle, takeNotice, same]
  rfl

theorem exec_readEvents :
    exec (.readEvents []) s =
      .next (State.answered { s with rqh.events := some ⟨p, (s.station p).flags⟩ } .readEvents [] .ok
        [0#3 ++ (s.station p).flags, 0#3 ++ (s.station p).eventMask]) := by
  refine asks.exec_ruled (k := .readEvents) (fun _ => rfl) (Nat.zero_le _) rfl fun _ => ?_
  rw [← byte_toNat_eq, ← byte_toNat_eq]
  rfl

theorem exec_setEventMask (m : Byte) :
    exec (.setEventMask [m]) s = .next
      (if 31 < m.toNat then s.refusal .setEventMask [m] .range
       else (s.modStation p (fun y => { y with eventMask := m.setWidth 5 })).answered .setEventMask [m] .ok []) := by
  by_cases wide : 31 < m.toNat
  · rw [if_pos wide]
    exact asks.exec_ruled (k := .setEventMask) (fun _ => rfl) (by simp) rfl fun _ => if_pos wide
  · rw [if_neg wide]
    exact asks.exec_ruled (k := .setEventMask) (fun _ => rfl) (by simp) rfl fun _ => if_neg wide

end

/-! ## CONFIG_CHANGED (R168, R169) -/

theorem mem_otherPositions (p q : Position) : q ∈ allPositions.filter (fun x => decide (x ≠ p)) ↔ q ≠ p := by
  simp [mem_allPositions]

theorem nodup_otherPositions (p : Position) : (allPositions.filter (fun x => decide (x ≠ p))).Nodup := nodup_allPositions.filter _

/-- CONFIG_CHANGED reaches every occupied position but the requester's. -/
theorem State.configChanged_station (s : State) (p q : Position) :
    (s.configChanged p).station q =
      if q ≠ p ∧ (s.station q).role ≠ none then { s.station q with flags := (s.station q).flags ||| 0x10#5 } else s.station q := by
  rw [State.configChanged, State.raiseEach_station _ _ (nodup_otherPositions p)]
  exact if_congr (and_congr_left' (mem_otherPositions p q)) rfl rfl

/-- A noted clearing of CONFIG_CHANGED is cancelled where it is raised again. -/
theorem State.configChanged_events (s : State) (p : Position) :
    (s.configChanged p).rqh.events = s.rqh.events.map (fun n =>
      if n.position ≠ p ∧ (s.station n.position).role ≠ none then { n with flags := n.flags &&& 0x0F#5 } else n) := by
  rw [State.configChanged, State.raiseEach_events _ _ (nodup_otherPositions p)]
  simp only [mem_otherPositions]; rfl

/-- Settles O53: the foremost pending district is the choice, which the notice law (R164) says has an alert; each row is its rule. -/
theorem noticesAndEventsAreRead : Obligations.NoticesAndEventsAreRead := by
  intro s p r d m asks notices x g c
  obtain ⟨-, pendingLaw⟩ := notices
  refine ⟨fun empty => exec_takeNotice_of_none asks (State.noticeChoice_of_empty empty), fun pending foremost => ?_,
    exec_readEvents asks, exec_setEventMask asks m, s.configChanged_station p, ?_⟩
  · obtain ⟨-, -, alerting⟩ := pendingLaw p d pending
    rw [exec_takeNotice_of_some asks (State.Foremost.noticeChoice_eq foremost pending alerting), State.noticeBytes_eq]
  · rw [← State.configChanged_events]
    exact s.configChanged_frame p

end Sys2Proof.Machine
end

section
/-!
PROOF. The check byte (R190): no step of its register loses anything, so two messages that differ in one byte have different check bytes.
-/

namespace Sys2Proof.Machine

/-! ## One shift of the register -/

theorem crcShift_eq (r : Byte) : crcShift r = (r <<< 1) ^^^ (if r.msb then 0x07#8 else 0x00#8) := by
  rw [crcShift]
  split
  · rfl
  · exact BitVec.xor_zero.symm

/-- 07h is odd, and the shift leaves a 0 in the low bit: the low bit tells which bit was shifted out. -/
theorem crcShift_getLsbD_zero (r : Byte) : (crcShift r).getLsbD 0 = r.msb := by
  rw [crcShift_eq]
  cases r.msb <;> simp

theorem eq_of_msb_eq_of_shiftLeft_eq {r q : Byte} (top : r.msb = q.msb) (rest : r <<< 1 = q <<< 1) : r = q := by
  refine BitVec.eq_of_getElem_eq fun i hi => ?_
  by_cases last : i = 7
  · subst last
    exact top
  · have inside : i + 1 < 8 := by omega
    have bit : (r <<< 1)[i + 1] = (q <<< 1)[i + 1] := by rw [rest]
    simpa using bit

theorem crcShift_injective : Function.Injective crcShift := by
  intro r q same
  have top : r.msb = q.msb := by rw [← crcShift_getLsbD_zero, same, crcShift_getLsbD_zero]
  rw [crcShift_eq, crcShift_eq, top] at same
  exact eq_of_msb_eq_of_shiftLeft_eq top ((BitVec.xor_left_inj _).1 same)

/-! ## One byte, and a run of bytes -/

theorem crcByte_eq_foldl (r b : Byte) :
    crcByte r b = (List.range 8).foldl (fun (r : Byte) _ => (r <<< 1) ^^^ (if r.msb then 0x07#8 else 0x00#8)) (r ^^^ b) := by
  simp only [← crcShift_eq]
  exact (List.foldl_const crcShift (r ^^^ b) (List.range 8)).symm

theorem crcByte_injective_register (b : Byte) : Function.Injective (crcByte · b) :=
  fun _ _ same => (BitVec.xor_left_inj _).1 (crcShift_injective.iterate 8 same)

theorem crcByte_injective_byte (r : Byte) : Function.Injective (crcByte r) :=
  fun _ _ same => (BitVec.xor_right_inj _).1 (crcShift_injective.iterate 8 same)

/-- Bytes that follow do not bring two different registers together. -/
theorem foldl_crcByte_injective (cs : List Byte) : Function.Injective (fun r => cs.foldl crcByte r) := by
  induction cs with
  | nil => exact Function.injective_id
  | cons c cs ih => exact ih.comp (crcByte_injective_register c)

theorem crc8_concat (bs : List Byte) (b : Byte) : crc8 (bs ++ [b]) = crcByte (crc8 bs) b := List.foldl_append

theorem crc8_append_cons (bs cs : List Byte) (b : Byte) : crc8 (bs ++ b :: cs) = cs.foldl crcByte (crcByte (crc8 bs) b) :=
  List.foldl_append

/-! ## The check of a received message -/

/-- A message without its check byte is refused: LENGTH where one of the two checks before it fails, and CHECK otherwise (R183). -/
theorem openEnvelope_of_wrong_check {m : List Byte} (wrong : m.getLast? ≠ some (crc8 m.dropLast)) (long : Bool) :
    openEnvelope m long = .refused (if long ∨ m.length < 3 then .length else .check) := by
  rw [openEnvelope]
  cases long with
  | true => rfl
  | false =>
    by_cases short : m.length < 3
    · simp [short]
    · simp [short, wrong]

theorem getLast?_of_openEnvelope_request {m : List Byte} {long : Bool} {k : Kind} {body : List Byte}
    (accepted : openEnvelope m long = .request k body) : m.getLast? = some (crc8 m.dropLast) := by
  by_contra wrong
  rw [openEnvelope_of_wrong_check wrong] at accepted
  cases accepted

/-- Settles O31: the register after one byte is a one-to-one function of the register before it and of the byte, so the difference one
byte makes is carried to the end. -/
theorem checkByteCatchesOneChangedByte : Obligations.CheckByteCatchesOneChangedByte := by
  refine ⟨rfl, by decide, by decide, fun bs b => ?_, fun _ _ _ _ => getLast?_of_openEnvelope_request,
    fun b st body => ⟨(b ||| 0x80#8) :: st.code :: byte body.length :: body, rfl⟩, fun bs cs b c changed same => ?_⟩
  · rw [crc8_concat, crcByte_eq_foldl]
  · rw [crc8_append_cons, crc8_append_cons] at same
    exact changed (crcByte_injective_byte _ (foldl_crcByte_injective cs same))

end Sys2Proof.Machine
end

section
/-!
PROOF. One step of the part, an idle step, and the values after the resets (R1, R2, R175, R176).
-/

namespace Sys2Proof.Machine

/-- Settles O1: the front command is the one that `step` matches on. -/
theorem stepRunsFrontCommand : Obligations.StepRunsFrontCommand := by
  intro s c rest front
  rw [step, front]

/-- While RSTN is high an event is its operation. -/
theorem taken_of_running {f : State → State} {s : State} (run : s.running = true) : taken f s = .next (f s) :=
  congrArg Host.Outcome.next (if_pos run)

/-- Settles O3: with nothing waiting the step is `State.crystalPeriod`, whose two tests are those of the statement. -/
theorem idleStepCountsCrystalPeriods : Obligations.IdleStepCountsCrystalPeriods := by
  intro s empty run range
  have minute : exec .minuteEvent s = .next s.minuteEvent := taken_of_running run
  rw [step, empty, minute]
  simp only [State.crystalPeriod, run, Bool.true_and]
  cases set : s.nck.clockSet with
  | false => rfl
  | true =>
    by_cases last : s.nck.divider = 1966079
    · simp [last]
    · have below : s.nck.divider + 1 < 1966080 := by omega
      simp [last, below, empty]

/-- While RSTN is low every command but the release leaves the part as it is. -/
theorem exec_of_held_low {c : Instr} (s : State) (other : ∀ a, c ≠ .powerOnReset a) {t : State} (low : exec .rstnHeldLow s = .next t) :
    exec c t = .next t := by
  cases low
  cases c with
  | powerOnReset a => exact absurd rfl (other a)
  | _ => rfl

/-- Settles O4: each value is read off `State.afterReset`. -/
theorem powerOnResetValues : Obligations.PowerOnResetValues := by
  intro strap s c
  refine ⟨rfl, ⟨_, rfl, rfl, rfl, fun i => Table.get_replicate _ i, rfl, fun d c => ?_, fun d => Table.get_replicate _ d, rfl, rfl, rfl,
    fun d => Table.get_replicate _ d, fun d => Table.get_replicate _ d, rfl, fun p other => ?_, rfl, rfl, rfl, rfl, rfl, rfl, rfl, rfl, rfl,
    rfl, rfl, rfl, rfl⟩, _, rfl, rfl, rfl, rfl, rfl, fun other => exec_of_held_low s other rfl⟩
  · have cells : Table.get (Table.replicate 32 emptyPressure) d = emptyPressure := Table.get_replicate _ d
    exact (congrArg (·.get c) cells).trans (Table.get_replicate _ c)
  · fin_cases p
    · exact absurd rfl other
    all_goals rfl

end Sys2Proof.Machine
end

section
/-!
PROOF. Contention, the ends of a grant, and the frame that follows (R175 to R179, R187 to R189).
-/

namespace Sys2Proof.Machine

/-! ## The position that holds an address (R178) -/

/-- An address that only one occupied position holds names that position. -/
theorem State.positionOf_eq_some {s : State} {p : Position} (role : (s.station p).role ≠ none)
    (alone : ∀ q : Position, q ≠ p → (s.station q).role ≠ none → (s.station q).address ≠ (s.station p).address) :
    s.positionOf (s.station p).address = some p := by
  cases h : s.positionOf (s.station p).address with
  | none =>
    have absent := List.find?_eq_none.1 h p (mem_allPositions p)
    simp [Station.occupied, Option.isSome_iff_ne_none, role] at absent
  | some q =>
    have occupant := List.find?_some h
    simp only [Station.occupied, Bool.and_eq_true, Option.isSome_iff_ne_none, decide_eq_true_eq] at occupant
    obtain ⟨occupied, sameAddress⟩ := occupant
    by_contra other
    exact alone q (fun e => other (congrArg some e)) occupied sameAddress

theorem State.positionOf_eq_none_iff (s : State) (a : BitVec 4) :
    s.positionOf a = none ↔ ∀ p : Position, ¬ ((s.station p).role ≠ none ∧ (s.station p).address = a) := by
  simp [State.positionOf, List.find?_eq_none, mem_allPositions, Station.occupied, Option.isSome_iff_ne_none]

/-! ## The free frame (R178, R179) -/

/-- The fairness hold after one more free frame: the second clears it. -/
def afterFreeFrame (hold : Option FairnessHold) : Option FairnessHold :=
  hold.bind (fun h => if h.freeFrames = 0 then some ⟨h.address, 1⟩ else none)

theorem State.countFreeFrame_eq (s : State) : s.countFreeFrame = { s with link.fairness := afterFreeFrame s.link.fairness } := by
  unfold State.countFreeFrame
  split
  next h hold =>
    by_cases first : h.freeFrames = 0
    · simp [hold, afterFreeFrame, first]
    · have second : ¬ h.freeFrames + 1 < 2 := by omega
      simp [hold, afterFreeFrame, first, second]
  next none =>
    have kept : s.link.fairness = afterFreeFrame s.link.fairness := by rw [none]; rfl
    rw [← kept]

theorem State.freeFrame_none (s : State) : s.freeFrame none = { s with link.fairness := afterFreeFrame s.link.fairness } :=
  s.countFreeFrame_eq

/-- A resolved address is counted as unknown, counted as discarded, or granted; a grant clears the fairness hold. -/
theorem State.freeFrame_some (s : State) (a : BitVec 4) :
    s.freeFrame (some a) =
      if a = 0#4 ∨ s.positionOf a = none then
        { s with link.fairness := afterFreeFrame s.link.fairness
                 counters.unknownContentions := min 65535 (s.counters.unknownContentions + 1) }
      else if s.link.fairness.map (·.address) = some a then
        { s with link.fairness := afterFreeFrame s.link.fairness
                 counters.fairnessDiscards := min 65535 (s.counters.fairnessDiscards + 1) }
      else s.giveGrant a := by
  rw [State.freeFrame, State.countFreeFrame_eq, State.judgeContention]
  split_ifs
  · rw [bump_eq_min_succ]
  · rw [bump_eq_min_succ]
  · rfl

/-! ## The break run (R177) -/

/-- A frame that is no break frame ends the break run. -/
theorem State.countBreak_false (s : State) : s.countBreak false = { s with link.breakRun := 0 } := rfl

/-- A break frame lengthens the run up to 16, and the sixteenth counts one link break. -/
theorem State.countBreak_true {s : State} (range : s.link.breakRun ≤ 16) :
    s.countBreak true = { s with
      link.breakRun := min 16 (s.link.breakRun + 1)
      counters.linkBreaks := if s.link.breakRun = 15 then min 65535 (s.counters.linkBreaks + 1) else s.counters.linkBreaks } := by
  unfold State.countBreak
  by_cases full : s.link.breakRun < 16
  · by_cases last : s.link.breakRun = 15
    · simp [last, bump_eq_min_succ]
    · have below : ¬ s.link.breakRun + 1 = 16 := by omega
      have short : min 16 (s.link.breakRun + 1) = s.link.breakRun + 1 := by omega
      rw [if_pos rfl, if_pos full, if_neg below, if_neg last, short]
  · have sixteen : s.link.breakRun = 16 := by omega
    have kept : min 16 (s.link.breakRun + 1) = s.link.breakRun := by omega
    have other : ¬ s.link.breakRun = 15 := by omega
    simp [full, kept, other]

/-- A short run is one longer after a break frame, and nothing is counted. -/
theorem State.countBreak_true_short {s : State} (short : s.link.breakRun < 15) :
    s.countBreak true = { s with link.breakRun := s.link.breakRun + 1 } := by
  have run : min 16 (s.link.breakRun + 1) = s.link.breakRun + 1 := by omega
  rw [State.countBreak_true (by omega), if_neg (by omega), run]

/-! ## Rows that are the end of a frame -/

section
variable {s : State} (run : s.running = true)
include run

theorem exec_contention (a : BitVec 4) (free : s.link.phase = .free) :
    exec (.contention a) s = .next (State.freeFrame { s with link.breakRun := 0 } (some a)).nextFrame := by
  refine (taken_of_running run).trans (congrArg _ ?_)
  rw [quietRow_eq, if_pos (decide_eq_true free)]

theorem exec_fairnessHoldCleared (free : s.link.phase = .free) :
    exec .fairnessHoldCleared s = .next (State.nextFrame { s with link.fairness := none, link.breakRun := 0 }) := by
  refine (taken_of_running run).trans (congrArg _ ?_)
  rw [quietRow_eq, if_pos (decide_eq_true free)]

theorem exec_answerCompletion (trailer : s.link.phase = .trailer) :
    exec .answerCompletion s = .next (State.completeAnswer { s with link.breakRun := 0 }).nextFrame := by
  refine (taken_of_running run).trans (congrArg _ ?_)
  rw [quietRow_eq, if_pos (decide_eq_true trailer)]

theorem exec_handshakeTimeout :
    exec .handshakeTimeout s =
      .next (if s.link.timedStep then (State.timeOut { s with link.breakRun := 0 }).nextFrame else s) :=
  taken_of_running run

theorem exec_breakEndsGrant :
    exec .breakEndsGrant s =
      .next (if s.link.phase = .free then s else (State.endGrant { s with link.breakRun := 2 }).nextFrame) := by
  refine (taken_of_running run).trans (congrArg _ ?_)
  rw [frameRow]
  by_cases free : s.link.phase = .free
  · simp [free]
  · simp [free, State.breakGrant]

theorem exec_linkBreak :
    exec .linkBreak s =
      .next (if s.link.phase = .free ∧ s.link.breakRun < 16 then
        State.nextFrame { s with
          link.breakRun := 16, link.fairness := none, counters.linkBreaks := min 65535 (s.counters.linkBreaks + 1) }
      else s) := by
  refine (taken_of_running run).trans (congrArg _ ?_)
  simp only [frameRow, bump_eq_min_succ, Bool.and_eq_true, decide_eq_true_eq]

theorem exec_frameEnd (up : BitVec 32) : exec (.frameEnd up) s = .next (s.frameEnd up) :=
  taken_of_running (f := (State.frameEnd · up)) run

end

/-! ## Grant ends (R179, R188) -/

theorem State.endGrant_of_holder {s : State} {a : BitVec 4} (holder : s.link.holder = some a) :
    s.endGrant = { s with link.phase := .free, link.holder := none, link.fairness := some ⟨a, 0⟩, rqh := ⟨none, none⟩ } := by
  unfold State.endGrant
  rw [holder]

theorem Link.timedStep_iff (l : Link) :
    l.timedStep = true ↔ (l.phase = .request ∧ l.recvStep ≠ .byte) ∨ l.phase = .answer := by
  unfold Link.timedStep
  cases l.phase <;> simp

/-- A timeout of the one occupied position that has the holder's address. -/
theorem State.timeOut_of_holder {s : State} {p : Position} (holder : s.link.holder = some (s.station p).address)
    (role : (s.station p).role ≠ none)
    (alone : ∀ q : Position, q ≠ p → (s.station q).role ≠ none → (s.station q).address ≠ (s.station p).address) :
    s.timeOut = { s.modStation p (fun x => { x with flags := x.flags ||| 0x08#5 }) with
      counters.handshakeTimeouts := min 65535 (s.counters.handshakeTimeouts + 1)
      link.phase := .free, link.holder := none, link.fairness := some ⟨(s.station p).address, 0⟩
      rqh.notice := none, rqh.events := none } := by
  have requester (n : Nat) : State.requester { s with counters.handshakeTimeouts := n } = some p := by
    rw [State.requester, holder]
    exact State.positionOf_eq_some role alone
  have occupied : (s.station p).occupied = true := Option.isSome_iff_ne_none.2 role
  have raised (n : Nat) : State.raiseAt .linkFault { s with counters.handshakeTimeouts := n } p =
      { s.modStation p (fun x => { x with flags := x.flags ||| 0x08#5 }) with
        counters.handshakeTimeouts := n
        rqh.events := s.rqh.events.map (fun n => if n.position = p then { n with flags := n.flags &&& ~~~ EventFlag.linkFault.mask } else n) } :=
    if_pos occupied
  calc s.timeOut
      = (State.raiseAt .linkFault { s with counters.handshakeTimeouts := bump 65535 s.counters.handshakeTimeouts } p).endGrant := by
        unfold State.timeOut
        dsimp only
        rw [requester]
    _ = _ := by
        rw [raised, bump_eq_min_succ]
        exact State.endGrant_of_holder holder

/-- Settles O24: a step that waits is a timed step, and its timeout is that of the one position with the holder's address. -/
theorem handshakeTimeoutEndsTheGrant : Obligations.HandshakeTimeoutEndsTheGrant := by
  intro s p run holder role alone
  rw [exec_handshakeTimeout run, State.timeOut_of_holder (s := { s with link.breakRun := 0 }) holder role alone]
  simp only [Link.timedStep_iff]
  split <;> rfl

/-- Settles O25: each row is its effect where it applies. -/
theorem breaksEndTheGrantAndAreCounted : Obligations.BreaksEndTheGrantAndAreCounted := by
  intro s a run
  refine ⟨fun holder => ?_, ?_⟩
  · rw [exec_breakEndsGrant run, State.endGrant_of_holder (s := { s with link.breakRun := 2 }) holder]
    split <;> rfl
  · rw [exec_linkBreak run]
    split <;> rfl

end Sys2Proof.Machine
end

section
/-!
PROOF. The frame end by grant phase (R176, R177), and the event that its frame brings (R178 to R189).
-/

namespace Sys2Proof.Machine

/-! ## The frame end by grant phase -/

theorem State.countBreak_frame (s : State) (b : Bool) :
    s.countBreak b = { s with link.breakRun := (s.countBreak b).link.breakRun, counters.linkBreaks := (s.countBreak b).counters.linkBreaks } := by
  unfold State.countBreak
  split_ifs <;> rfl

theorem State.countBreak_phase (s : State) (b : Bool) : (s.countBreak b).link.phase = s.link.phase := by
  rw [State.countBreak_frame]

section
variable {s : State} {up : BitVec 32}

theorem State.frameEnd_free (free : s.link.phase = .free) :
    s.frameEnd up = ((s.countBreak (isBreakFrame up)).freeFrame (contenderOf up)).nextFrame := by
  simp only [State.frameEnd, State.countBreak_phase, free]

theorem State.frameEnd_trailer (trailer : s.link.phase = .trailer) :
    s.frameEnd up = ((s.countBreak (isBreakFrame up)).trailerFrame
      (isBreakFrame up && decide (2 ≤ (s.countBreak (isBreakFrame up)).link.breakRun))).nextFrame := by
  simp only [State.frameEnd, State.countBreak_phase, trailer]

theorem State.frameEnd_request (request : s.link.phase = .request) (quiet : isBreakFrame up = false) :
    s.frameEnd up = (State.requestFrame { s with link.breakRun := 0 } (upBit up 16) (udataOf up)).nextFrame := by
  simp only [State.frameEnd, request, quiet, Bool.false_eq_true, if_false, State.countBreak_false]

theorem State.frameEnd_answer (answer : s.link.phase = .answer) (quiet : isBreakFrame up = false) :
    s.frameEnd up = (State.answerFrame { s with link.breakRun := 0 } (upBit up 17)).nextFrame := by
  simp only [State.frameEnd, answer, quiet, Bool.false_eq_true, if_false, State.countBreak_false]

/-- A break frame of REQUEST or ANSWER. -/
theorem State.frameEnd_break (phase : s.link.phase = .request ∨ s.link.phase = .answer) (brk : isBreakFrame up = true) :
    s.frameEnd up = (s.countBreak true).breakFrame.nextFrame := by
  rcases phase with request | answer
  · simp only [State.frameEnd, State.countBreak_phase, request, brk, if_true]
  · simp only [State.frameEnd, State.countBreak_phase, answer, brk, if_true]

end

theorem contenderOf_break {up : BitVec 32} (brk : isBreakFrame up = true) : contenderOf up = none := by
  simp [contenderOf, brk]

theorem contenderOf_clear {up : BitVec 32} (quiet : isBreakFrame up = false) (clear : upBit up 16 = false) :
    contenderOf up = some (up.extractLsb' 28 4) := by
  simp [contenderOf, quiet, clear]

theorem contenderOf_set {up : BitVec 32} (set : upBit up 16 = true) : contenderOf up = none := by
  simp [contenderOf, set]

/-- Settles O21: a contention is the free frame in which it is resolved, and the second free frame under the hold clears it. -/
theorem contentionIsJudged : Obligations.ContentionIsJudged := by
  intro s a run free hold
  have quiet : contenderOf 0xFFFFFFFF#32 = none := by decide
  have frame : s.frameEnd 0xFFFFFFFF#32 = (State.freeFrame { s with link.breakRun := 0 } none).nextFrame := by
    rw [State.frameEnd_free free, quiet]; rfl
  have named := State.positionOf_eq_none_iff { s with link.breakRun := 0 } a
  refine ⟨?_, exec_fairnessHoldCleared run free, fun b first => ?_, fun b second => ?_⟩
  · rw [exec_contention run a free, State.freeFrame_some]
    simp only [named]
    congr 2
  · rw [exec_frameEnd run, frame, State.freeFrame_none]
    simp only [first]; rfl
  · rw [exec_frameEnd run, exec_fairnessHoldCleared run free, frame, State.freeFrame_none]
    simp only [second]; rfl

/-! ## The break run beside the events (R177) -/

/-- The break run set to `k`. -/
def State.withBreakRun (s : State) (k : Nat) : State := { s with link.breakRun := k }

theorem State.endGrant_withBreakRun (s : State) (k : Nat) : (s.withBreakRun k).endGrant = s.endGrant.withBreakRun k := by
  have holder : (s.withBreakRun k).link.holder = s.link.holder := rfl
  unfold State.endGrant
  rw [holder]
  cases s.link.holder <;> rfl

theorem State.raiseAt_withBreakRun (f : EventFlag) (s : State) (p : Position) (k : Nat) :
    (s.withBreakRun k).raiseAt f p = (s.raiseAt f p).withBreakRun k := by
  have station : (s.withBreakRun k).station p = s.station p := rfl
  unfold State.raiseAt
  rw [station]
  split <;> rfl

/-- A timeout neither reads nor writes the break run. -/
theorem State.timeOut_withBreakRun (s : State) (k : Nat) : (s.withBreakRun k).timeOut = s.timeOut.withBreakRun k := by
  let counted : State := { s with counters.handshakeTimeouts := bump 65535 s.counters.handshakeTimeouts }
  have same : State.timeOut (s.withBreakRun k) =
    (match counted.requester with
     | some p => (counted.withBreakRun k).raiseAt .linkFault p
     | none => counted.withBreakRun k).endGrant := rfl
  have before : s.timeOut =
    (match counted.requester with
     | some p => counted.raiseAt .linkFault p
     | none => counted).endGrant := rfl
  rw [same, before]
  cases counted.requester with
  | some p =>
    dsimp only
    rw [State.raiseAt_withBreakRun, State.endGrant_withBreakRun]
  | none => exact State.endGrant_withBreakRun counted k

/-- The side effects of an answer and the end of its grant neither read nor write the break run. -/
theorem State.completeAnswer_withBreakRun (s : State) (k : Nat) :
    (s.withBreakRun k).completeAnswer = s.completeAnswer.withBreakRun k := by
  have events (t : State) : (t.withBreakRun k).commitEvents = t.commitEvents.withBreakRun k := by
    have note : (t.withBreakRun k).rqh = t.rqh := rfl
    unfold State.commitEvents
    rw [note]
    cases t.rqh.events <;> rfl
  have notice : (s.withBreakRun k).commitNotice = s.commitNotice.withBreakRun k := by
    have note : (s.withBreakRun k).rqh = s.rqh := rfl
    have station (p : Position) : (s.withBreakRun k).station p = s.station p := rfl
    have dropped (p : Position) (d : District) :
        ((s.withBreakRun k).dropPending p d).endCleared d = ((s.dropPending p d).endCleared d).withBreakRun k := by
      rw [State.endCleared_eq, State.endCleared_eq]; rfl
    unfold State.commitNotice
    simp only [note, station, dropped]
    cases s.rqh.notice with
    | none => rfl
    | some n =>
      dsimp only
      split <;> rfl
  unfold State.completeAnswer
  rw [notice, events, State.endGrant_withBreakRun]

/-! ## A frame that leaves the step unmet (R181, R186, R188) -/

/-- The frame leaves the step of the station unmet. -/
abbrev Link.Unmet (l : Link) (uv ua : Bool) : Prop :=
  (l.phase = .request ∧ l.recvStep = .first ∧ uv = false) ∨ (l.phase = .request ∧ l.recvStep = .clear ∧ uv = true) ∨
    (l.phase = .answer ∧ l.sendStep = .offer ∧ ua = false) ∨ (l.phase = .answer ∧ l.sendStep = .release ∧ ua = true)

theorem State.frameEnd_unmet {s : State} {up : BitVec 32} (unmet : s.link.Unmet (upBit up 16) (upBit up 17))
    (quiet : isBreakFrame up = false) : s.frameEnd up = (State.waitFrame { s with link.breakRun := 0 }).nextFrame := by
  rcases unmet with ⟨phase, step, bit⟩ | ⟨phase, step, bit⟩ | ⟨phase, step, bit⟩ | ⟨phase, step, bit⟩
  · rw [State.frameEnd_request phase quiet, bit]; simp only [State.requestFrame, step]
  · rw [State.frameEnd_request phase quiet, bit]; simp only [State.requestFrame, step]
  · rw [State.frameEnd_answer phase quiet, bit]; simp only [State.answerFrame, step]
  · rw [State.frameEnd_answer phase quiet, bit]; simp only [State.answerFrame, step]

theorem Link.timedStep_of_unmet {l : Link} {uv ua : Bool} (unmet : l.Unmet uv ua) : l.timedStep = true := by
  rw [Link.timedStep_iff]
  rcases unmet with ⟨phase, step, -⟩ | ⟨phase, step, -⟩ | ⟨phase, -⟩ | ⟨phase, -⟩
  · exact .inl ⟨phase, by rw [step]; decide⟩
  · exact .inl ⟨phase, by rw [step]; decide⟩
  · exact .inr phase
  · exact .inr phase

/-! ## A break frame of REQUEST or ANSWER (R177, R188, R189) -/

section
variable {s : State}

theorem State.breakFrame_timesOut (timed : s.link.timedStep = true) (last : 63 ≤ s.link.frames) : s.breakFrame = s.timeOut := by
  have full : 64 ≤ s.link.frames + 1 := by omega
  simp [State.breakFrame, timed, full]

theorem State.breakFrame_ends (spare : ¬ (s.link.timedStep = true ∧ 63 ≤ s.link.frames)) (second : 2 ≤ s.link.breakRun) :
    s.breakFrame = s.endGrant := by
  have counts : ¬ (s.link.timedStep && decide (64 ≤ s.link.frames + 1)) = true := by
    rw [Bool.and_eq_true, decide_eq_true_eq, Nat.succ_le_succ_iff]; exact spare
  rw [State.breakFrame, if_neg counts, if_pos second, State.breakGrant]

theorem State.breakFrame_counts (spare : ¬ (s.link.timedStep = true ∧ 63 ≤ s.link.frames)) (first : s.link.breakRun < 2) :
    s.breakFrame = { s with link.frames := if s.link.timedStep then s.link.frames + 1 else s.link.frames } := by
  have counts : ¬ (s.link.timedStep && decide (64 ≤ s.link.frames + 1)) = true := by
    rw [Bool.and_eq_true, decide_eq_true_eq, Nat.succ_le_succ_iff]; exact spare
  rw [State.breakFrame, if_neg counts, if_neg (by omega)]
  split <;> rfl

end

/-- Settles O26: each clause is the frame end of its phase, the break run counted first. -/
theorem frameEndTakesTheEventItBrings : Obligations.FrameEndTakesTheEventItBrings := by
  intro s up run isBreak uv ua waits unmet
  have timed : s.link.timedStep = true ↔ waits := Link.timedStep_iff _
  simp only [exec_frameEnd run]
  refine ⟨fun free (quiet : isBreakFrame up = false) clear => ?_, fun free (quiet : isBreakFrame up = false) set none => ?_,
    fun trailer frames (quiet : isBreakFrame up = false) => ?_, fun step frames (quiet : isBreakFrame up = false) => ?_,
    fun step frames (quiet : isBreakFrame up = false) => ?_, fun step frames (brk : isBreakFrame up = true) first => ?_,
    fun phase fresh (brk : isBreakFrame up = true) spare => ?_, fun trailer frames fresh (brk : isBreakFrame up = true) => ?_,
    fun trailer frames fresh (brk : isBreakFrame up = true) => ?_, fun phase second (brk : isBreakFrame up = true) spare => ?_,
    fun free range (brk : isBreakFrame up = true) => ?_, fun free none run15 (brk : isBreakFrame up = true) => ?_⟩
  · rw [exec_contention run _ free, State.frameEnd_free free, quiet, State.countBreak_false, contenderOf_clear quiet clear]
  · rw [State.frameEnd_free free, quiet, State.countBreak_false, contenderOf_set set, State.freeFrame_none, none]; rfl
  · rw [exec_answerCompletion run trailer, State.frameEnd_trailer trailer, quiet, State.countBreak_false]
    simp [State.trailerFrame, frames]
  · rw [exec_handshakeTimeout run, if_pos (Link.timedStep_of_unmet step), State.frameEnd_unmet step quiet]
    simp [State.waitFrame, frames]
  · have below : s.link.frames + 1 < 64 := by omega
    rw [State.frameEnd_unmet step quiet]
    simp [State.waitFrame, below]
  · have phase : s.link.phase = .request ∨ s.link.phase = .answer := step.imp And.left id
    have counted : s.countBreak true = s.withBreakRun (s.link.breakRun + 1) := State.countBreak_true_short (by omega)
    have timesOut : (s.withBreakRun (s.link.breakRun + 1)).breakFrame = s.timeOut.withBreakRun (s.link.breakRun + 1) := by
      rw [State.breakFrame_timesOut (s := s.withBreakRun (s.link.breakRun + 1)) (timed.2 step) frames.ge, State.timeOut_withBreakRun]
    have row : exec .handshakeTimeout s = .next (s.timeOut.withBreakRun 0).nextFrame := by
      rw [exec_handshakeTimeout run, if_pos (timed.2 step), ← State.timeOut_withBreakRun]; rfl
    rw [row, State.frameEnd_break phase brk, counted, timesOut]
    exact ⟨_, rfl, rfl⟩
  · have spared : ¬ (s.link.timedStep = true ∧ 63 ≤ s.link.frames) := by rwa [timed]
    have counted : s.countBreak true = s.withBreakRun 1 := by
      rw [State.countBreak_true_short (by omega), fresh]; rfl
    rw [State.frameEnd_break phase brk, counted, State.breakFrame_counts (s := s.withBreakRun 1) spared (by decide : 1 < 2)]
    refine congrArg (fun n => Host.Outcome.next (State.nextFrame { s with link.breakRun := 1, link.frames := n })) (if_congr timed rfl rfl)
  · rw [State.frameEnd_trailer trailer, brk, State.countBreak_true_short (by omega)]
    simp [State.trailerFrame, frames, fresh]
  · have counted : s.countBreak true = s.withBreakRun 1 := by
      rw [State.countBreak_true_short (by omega), fresh]; rfl
    have frame : (s.withBreakRun 1).trailerFrame false = s.completeAnswer.withBreakRun 1 := by
      have second : ¬ (s.withBreakRun 1).link.frames + 1 < 2 := by
        show ¬ s.link.frames + 1 < 2
        omega
      rw [State.trailerFrame, if_neg Bool.false_ne_true, if_neg second, State.completeAnswer_withBreakRun]
    have row : exec .answerCompletion s = .next (s.completeAnswer.withBreakRun 0).nextFrame := by
      rw [exec_answerCompletion run trailer, ← State.completeAnswer_withBreakRun]; rfl
    rw [row, State.frameEnd_trailer trailer, brk, counted]
    exact ⟨_, rfl, congrArg (fun t => Host.Outcome.next (State.nextFrame t)) frame⟩
  · rw [exec_breakEndsGrant run, if_neg phase]
    have spared : ¬ (s.link.timedStep = true ∧ 63 ≤ s.link.frames) := by rwa [timed]
    have counted : s.countBreak true = s.withBreakRun 2 := by
      rw [State.countBreak_true_short (by omega), second]; rfl
    have ends : (s.withBreakRun 2).breakFrame = (s.withBreakRun 2).endGrant := State.breakFrame_ends spared le_rfl
    cases stage : s.link.phase with
    | free => exact absurd stage phase
    | request => rw [State.frameEnd_break (.inl stage) brk, counted, ends]; rfl
    | answer => rw [State.frameEnd_break (.inr stage) brk, counted, ends]; rfl
    | trailer => rw [State.frameEnd_trailer stage, brk, counted]; rfl
  · rw [State.frameEnd_free free, brk, State.countBreak_true range, contenderOf_break brk, State.freeFrame_none]; rfl
  · have range : s.link.breakRun ≤ 16 := by omega
    have below : s.link.breakRun < 16 := by omega
    rw [exec_linkBreak run, if_pos ⟨free, below⟩, State.frameEnd_free free, brk, State.countBreak_true range, contenderOf_break brk,
      State.freeFrame_none, run15, none]
    rfl

end Sys2Proof.Machine
end

section
/-!
PROOF. The message refused at the envelope (R183), the answer's completion (R187), and what DN carries (R176, R192).
-/

namespace Sys2Proof.Machine

/-! ## The envelope (R183) -/

theorem kind_ofByte_eq_none_iff (b : Byte) : Kind.ofByte b = none ↔ ∀ k ∈ Kind.all, k.code ≠ b := by
  simp [Kind.ofByte, List.find?_eq_none]

theorem kind_code_msb (k : Kind) : k.code.msb = false := by cases k <;> rfl

/-- Settles O30: the message passes each of the five checks. -/
theorem envelopeOpensWhatItSeals : Obligations.EnvelopeOpensWhatItSeals :=
  fun k body fits => ⟨openEnvelope_requestMessage k body fits, Sys2Proof.Laws.requestMessage_length k body, kind_code_msb k⟩

/-- The envelope's judgement of a message that is not over-length. -/
theorem openEnvelope_of_fits (m : List Byte) :
    openEnvelope m false =
      if m.length < 3 then .refused .length
      else if m.getLast? ≠ some (crc8 m.dropLast) then .refused .check
      else if (m.getD 1 0).toNat ≠ m.length - 3 then .refused .length
      else match Kind.ofByte (m.getD 0 0) with
        | none => .refused .unknownKind
        | some k => .request k (m.drop 2).dropLast := rfl

/-- The row of a message that the envelope refuses. -/
theorem exec_envelopeCheckRefusal_refused {s : State} {b : Byte} {bs : List Byte} {st : Status} (run : s.running = true)
    (phase : s.link.phase = .request)
    (refused : openEnvelope ((b :: bs).take 64) (decide (64 < (b :: bs).length)) = .refused st) :
    exec (.envelopeCheckRefusal (b :: bs)) s = .next (State.nextFrame { s with
      counters := s.counters.afterEnvelope st
      link.phase := .answer, link.recvStep := .byte, link.sendStep := .offer, link.frames := 0, link.clearFrames := 3
      link.recvBuf := (b :: bs).take 64, link.overLength := decide (64 < (b :: bs).length), link.answer := answerMessage b st []
      link.sendPos := 0, link.breakRun := 0 }) := by
  have applies : (decide (s.link.phase = .request) && !(b :: bs).isEmpty) = true := by simp [phase]
  rw [exec, execEnvelopeCheckRefusal, taken_of_running run, refused]
  dsimp only
  rw [frameRow, if_pos applies]
  rfl

theorem exec_envelopeCheckRefusal_passed {s : State} {m body : List Byte} {k : Kind} (run : s.running = true)
    (passed : openEnvelope (m.take 64) (decide (64 < m.length)) = .request k body) :
    exec (.envelopeCheckRefusal m) s = .next s := by
  rw [exec, execEnvelopeCheckRefusal, taken_of_running run, passed]

/-- Settles O22: the checks are those of `openEnvelope`, and each refusal is its row. -/
theorem envelopeRefusalIsAnswered : Obligations.EnvelopeRefusalIsAnswered := by
  intro s b bs run phase m refused
  have answered (st : Status) (h : openEnvelope (m.take 64) (decide (64 < m.length)) = .refused st) :
      exec (.envelopeCheckRefusal m) s = refused st (s.counters.afterEnvelope st) := exec_envelopeCheckRefusal_refused run phase h
  have length : s.counters.afterEnvelope .length = { s.counters with lengthErrors := min 65535 (s.counters.lengthErrors + 1) } := by
    rw [← bump_eq_min_succ]; rfl
  have check : s.counters.afterEnvelope .check = { s.counters with checkErrors := min 65535 (s.counters.checkErrors + 1) } := by
    rw [← bump_eq_min_succ]; rfl
  rw [← length, ← check]
  by_cases long : 64 < m.length
  · rw [if_pos (.inl long)]
    exact answered .length (by rw [decide_eq_true long]; rfl)
  have whole : m.take 64 = m := List.take_of_length_le (Nat.le_of_not_lt long)
  rw [whole, decide_eq_false long, openEnvelope_of_fits] at answered
  by_cases short : m.length < 3
  · rw [if_pos (.inr short)]
    exact answered .length (if_pos short)
  rw [if_neg (not_or.2 ⟨long, short⟩)]
  by_cases wrong : m.getLast? ≠ some (crc8 m.dropLast)
  · rw [if_pos wrong]
    exact answered .check (by rw [if_neg short, if_pos wrong])
  rw [if_neg wrong]
  by_cases size : (m.getD 1 0).toNat ≠ m.length - 3
  · rw [if_pos size]
    exact answered .length (by rw [if_neg short, if_neg wrong, if_pos size])
  rw [if_neg size]
  have first : m.getD 0 0 = b := rfl
  rw [if_neg short, if_neg wrong, if_neg size, first] at answered
  by_cases unknown : ∀ k ∈ Kind.all, k.code ≠ b
  · rw [if_pos unknown]
    exact answered .unknownKind (by rw [(kind_ofByte_eq_none_iff b).2 unknown])
  · rw [if_neg unknown]
    obtain ⟨k, known⟩ := Option.ne_none_iff_exists'.1 (mt (kind_ofByte_eq_none_iff b).1 unknown)
    refine exec_envelopeCheckRefusal_passed run (k := k) (body := (m.drop 2).dropLast) ?_
    rw [whole, decide_eq_false long, openEnvelope_of_fits, if_neg short, if_neg wrong, if_neg size, first, known]

/-! ## What an answer's completion commits (R167, R169, R142) -/

theorem State.station_dropPending (s : State) (p q : Position) (d : District) :
    (s.dropPending p d).station q =
      if q = p then { s.station p with pendingSet := (s.station p).pendingSet.remove d } else s.station q :=
  s.station_modStation p q _

theorem State.commitNotice_of_none {s : State} (none : s.rqh.notice = none) : s.commitNotice = s := by
  rw [State.commitNotice, none]

theorem State.commitNotice_of_not_pending {s : State} {n : NoticeNote} (noted : s.rqh.notice = some n)
    (absent : (s.station n.position).pendingSet.has n.district = false) : s.commitNotice = s := by
  rw [State.commitNotice, noted]
  exact if_neg (by rw [absent]; exact Bool.false_ne_true)

theorem State.commitNotice_of_pending {s : State} {n : NoticeNote} (noted : s.rqh.notice = some n)
    (pending : (s.station n.position).pendingSet.has n.district = true) :
    s.commitNotice = (s.dropPending n.position n.district).endCleared n.district := by
  rw [State.commitNotice, noted]
  exact if_pos pending

/-- District `d` is noted for removal at position `p`. -/
abbrev State.Noted (s : State) (p : Position) (d : District) : Prop := s.rqh.notice = some ⟨p, d⟩

/-- The noted removal touches pending sets only, and of those the noted district at the noted position (R167). -/
theorem State.commitNotice_station (s : State) (p : Position) :
    s.commitNotice.station p = { s.station p with pendingSet := (s.commitNotice.station p).pendingSet } ∧
    ∀ d : District, (s.commitNotice.station p).pendingSet.has d = ((s.station p).pendingSet.has d && !decide (s.Noted p d)) := by
  rcases Option.eq_none_or_eq_some s.rqh.notice with noted | ⟨n, noted⟩
  · simp [State.commitNotice_of_none noted, State.Noted, noted]
  · cases pending : (s.station n.position).pendingSet.has n.district with
    | false =>
      rw [State.commitNotice_of_not_pending noted pending]
      refine ⟨rfl, fun d => ?_⟩
      by_cases here : s.Noted p d
      · obtain rfl : n = ⟨p, d⟩ := Option.some.inj (noted.symm.trans here)
        simp [pending]
      · simp [here]
    | true =>
      have station : s.commitNotice.station p = (s.dropPending n.position n.district).station p := by
        rw [State.commitNotice_of_pending noted pending, State.endCleared_eq]; rfl
      rw [station, State.station_dropPending]
      by_cases here : p = n.position
      · subst here
        refine ⟨by simp, fun d => ?_⟩
        have same : s.Noted n.position d ↔ d = n.district := by
          rw [State.Noted, noted, Option.some.injEq, NoticeNote.mk.injEq]
          exact (and_iff_right rfl).trans eq_comm
        rw [if_pos rfl, DistrictSet.has_remove]
        simp [same]
      · refine ⟨by simp [here], fun d => ?_⟩
        have other : ¬ s.Noted p d := fun h => here (congrArg NoticeNote.position (Option.some.inj (h.symm.trans noted)))
        simp [here, other]

/-- A noted removal that takes the last pending entry of a CLEARED district ends its alert (R142, R167). -/
theorem State.commitNotice_watch (s : State) (d : District) :
    s.commitNotice.watch d =
      if (∃ p : Position, s.Noted p d ∧ (s.station p).pendingSet.has d = true) ∧ (s.watch d).alert = .cleared ∧
          ∀ p : Position, (s.station p).pendingSet.has d = true → s.Noted p d
      then { s.watch d with alert := .none } else s.watch d := by
  rcases Option.eq_none_or_eq_some s.rqh.notice with noted | ⟨n, noted⟩
  · simp [State.commitNotice_of_none noted, State.Noted, noted]
  · cases pending : (s.station n.position).pendingSet.has n.district with
    | false =>
      rw [State.commitNotice_of_not_pending noted pending, if_neg]
      rintro ⟨⟨p, here, also⟩, -⟩
      obtain rfl : n = ⟨p, d⟩ := Option.some.inj (noted.symm.trans here)
      exact Bool.false_ne_true (pending.symm.trans also)
    | true =>
      have station (p : Position) : (s.commitNotice.station p).pendingSet.has n.district =
          ((s.dropPending n.position n.district).station p).pendingSet.has n.district := by
        rw [State.commitNotice_of_pending noted pending, State.endCleared_eq]; rfl
      have watch : s.commitNotice.watch d = (s.modWatch n.district (fun w =>
          { w with alert := if (s.dropPending n.position n.district).ClearedEnds n.district then .none else w.alert })).watch d := by
        rw [State.commitNotice_of_pending noted pending, State.endCleared_eq]; rfl
      have ends : (s.dropPending n.position n.district).ClearedEnds n.district ↔ (s.watch n.district).alert = .cleared ∧
          ∀ p : Position, (s.station p).pendingSet.has n.district = true → s.Noted p n.district := by
        refine and_congr Iff.rfl (forall_congr' fun p => ?_)
        rw [← station, (s.commitNotice_station p).2]
        cases (s.station p).pendingSet.has n.district <;> simp
      rw [watch, State.watch_modWatch]
      by_cases here : d = n.district
      · subst here
        have exist : ∃ p : Position, s.Noted p n.district ∧ (s.station p).pendingSet.has n.district = true := ⟨_, noted, pending⟩
        rw [if_pos rfl]
        simp only [ends, exist, true_and]
        split <;> rfl
      · rw [if_neg here, if_neg]
        rintro ⟨⟨p, elsewhere, -⟩, -⟩
        exact here (congrArg NoticeNote.district (Option.some.inj (elsewhere.symm.trans noted)))

/-- The noted flags are cleared at the position of their note (R169). -/
theorem State.commitEvents_station (s : State) (p : Position) :
    s.commitEvents.station p = { s.station p with
      flags := (s.station p).flags &&& ~~~ ((s.rqh.events.filter (fun x => decide (x.position = p))).map (·.flags)).getD 0#5 } := by
  have kept : (s.station p).flags &&& ~~~ 0#5 = (s.station p).flags := BitVec.and_allOnes
  unfold State.commitEvents
  cases s.rqh.events with
  | none => rw [Option.filter_none, Option.map_none, Option.getD_none, kept]
  | some n =>
    dsimp only
    rw [State.station_modStation]
    by_cases here : p = n.position
    · rw [if_pos here, here, Option.filter_some_pos (by simp)]; rfl
    · rw [if_neg here, Option.filter_some_neg (by simp [Ne.symm here]), Option.map_none, Option.getD_none, kept]

/-- Settles O23: the notice is committed, then the flags, and the grant ends. -/
theorem answerCompletionCommits : Obligations.AnswerCompletionCommits := by
  intro s a run trailer holder taken
  rw [exec_answerCompletion run trailer]
  have unnoted : ((s.withBreakRun 0).commitNotice.commitEvents).link.holder = some a := by
    rw [State.commitEvents_frame, State.commitNotice_frame]; exact holder
  have effect : (s.withBreakRun 0).completeAnswer = { s with
      watches := (s.withBreakRun 0).commitNotice.watches, stations := (s.withBreakRun 0).commitNotice.commitEvents.stations
      rqh := ⟨none, none⟩
      link := { s.link with phase := .free, holder := none, fairness := some ⟨a, 0⟩, breakRun := 0 } } := by
    rw [State.completeAnswer, State.endGrant_of_holder unnoted, State.commitEvents_frame, State.commitNotice_frame]; rfl
  have station (p : Position) := (s.withBreakRun 0).commitNotice.commitEvents_station p
  have notes : (s.withBreakRun 0).commitNotice.rqh.events = s.rqh.events := by rw [State.commitNotice_frame]; rfl
  have pending (p : Position) := (s.withBreakRun 0).commitNotice_station p
  have watch (d : District) := (s.withBreakRun 0).commitNotice_watch d
  have final (p : Position) : (s.withBreakRun 0).completeAnswer.station p =
      (s.withBreakRun 0).commitNotice.commitEvents.station p := by rw [effect]; rfl
  refine ⟨(s.withBreakRun 0).completeAnswer.nextFrame, rfl, ?_, fun d => ?_, fun p => ?_, fun p d => ?_⟩
  · rw [effect]; rfl
  · have same : (s.withBreakRun 0).completeAnswer.nextFrame.watch d = (s.withBreakRun 0).commitNotice.watch d := by
      rw [State.nextFrame_watch, effect]; rfl
    simp only [same, watch, taken, decide_eq_true_eq]; rfl
  · rw [State.nextFrame_station, final, station, (pending p).1, notes]; rfl
  · rw [State.nextFrame_station, final, station]
    exact (pending p).2 d

/-! ## What DN carries (R176, R192) -/

/-- The fields of a word of DN, most significant first. -/
theorem frame_word_fields (g n : BitVec 4) (d : Byte) (v a : Bool) :
    let x : BitVec (4 + 4 + 8 + 1 + 1 + 14) := g ++ n ++ d ++ BitVec.ofBool v ++ BitVec.ofBool a ++ 0x3FFF#14
    x.extractLsb' 28 4 = g ∧ (∀ i < 4, x.getMsbD (4 + i) = n.getMsbD i) ∧ x.extractLsb' 16 8 = d ∧ x.getMsbD 16 = v ∧
    x.getMsbD 17 = a ∧ x.extractLsb' 0 14 = 0x3FFF#14 := by
  intro x
  have bit (i : Nat) : x.getLsbD i = if i < 14 then (0x3FFF#14).getLsbD i else if i < 15 then a && decide (i = 14)
      else if i < 16 then v && decide (i = 15)
      else if i < 24 then d.getLsbD (i - 16) else if i < 28 then n.getLsbD (i - 24) else g.getLsbD (i - 28) := by
    unfold x
    rw [BitVec.getLsbD_append, BitVec.getLsbD_append, BitVec.getLsbD_append, BitVec.getLsbD_append, BitVec.getLsbD_append,
      BitVec.getLsbD_ofBool, BitVec.getLsbD_ofBool]
    grind
  refine ⟨?_, fun i small => ?_, ?_, ?_, ?_, ?_⟩
  · refine BitVec.eq_of_getLsbD_eq fun i hi => ?_
    rw [BitVec.getLsbD_extractLsb', bit]
    grind
  · rw [BitVec.getMsbD, BitVec.getMsbD, bit]
    grind
  · refine BitVec.eq_of_getLsbD_eq fun i hi => ?_
    rw [BitVec.getLsbD_extractLsb', bit]
    grind
  · rw [BitVec.getMsbD, bit]
    simp
  · rw [BitVec.getMsbD, bit]
    simp
  · refine BitVec.eq_of_getLsbD_eq fun i hi => ?_
    rw [BitVec.getLsbD_extractLsb', bit]
    grind

/-- Four bits put together, first bit first. -/
theorem getMsbD_four_bits (a b c d : Bool) :
    let x := BitVec.ofBool a ++ BitVec.ofBool b ++ BitVec.ofBool c ++ BitVec.ofBool d
    x.getMsbD 0 = a ∧ x.getMsbD 1 = b ∧ x.getMsbD 2 = c ∧ x.getMsbD 3 = d := by
  decide +revert

theorem State.attentionBits_getMsbD (s : State) (p : Position) : s.attentionBits.getMsbD p.1 = s.attention p := by
  obtain ⟨zero, one, two, three⟩ := getMsbD_four_bits (s.attention 0) (s.attention 1) (s.attention 2) (s.attention 3)
  fin_cases p
  · exact zero
  · exact one
  · exact two
  · exact three

/-- Settles O29: a frame end is some effect and then the next frame, whose word is `State.downstream`. -/
theorem frameCarriesTheState : Obligations.FrameCarriesTheState := by
  intro s up run
  obtain ⟨u, ends⟩ : ∃ u : State, s.frameEnd up = u.nextFrame := ⟨_, rfl⟩
  refine ⟨u.nextFrame, by rw [exec_frameEnd run, ends], ?_⟩
  intro offers
  obtain ⟨grant, attention, data, dv, da, ones⟩ := frame_word_fields u.link.grant u.attentionBits u.link.ddata u.link.dv u.link.da
  have offering : u.link.dv = offers := (Bool.decide_and _ _).symm
  refine ⟨grant, fun p => (attention p.1 p.2).trans ?_, data.trans ?_, dv.trans offering, da.trans ?_, ones⟩
  · rw [State.attentionBits_getMsbD, State.attention, Station.attention, ← Bool.decide_or]; rfl
  · rw [Link.ddata, offering]; rfl
  · exact (Bool.decide_and _ _).symm

end Sys2Proof.Machine
end

section
/-!
PROOF. No operation of the part behind the link reads or moves the link or the queue of waiting commands (R175, R184).
-/

namespace Sys2Proof.Machine

/-- The part with another link state, other waiting commands and another clock reading: what the events of the night do not read. -/
def State.apart (s : State) (l : Link) (q : List Instr) (now : ClockTime) (ticks : Nat) : State :=
  { s with link := l, pending := q, nck.clock := now, nck.divider := ticks }

/-- The part with another link state and other waiting commands: what no request's rule reads. -/
def State.outside (s : State) (l : Link) (q : List Instr) : State := { s with link := l, pending := q }

section Fields
variable (s : State) (l : Link) (q : List Instr) (now : ClockTime) (ticks : Nat)

@[simp] theorem State.apart_phase : (s.apart l q now ticks).nck.phase = s.nck.phase := rfl
@[simp] theorem State.apart_nightDay : (s.apart l q now ticks).nck.nightDay = s.nck.nightDay := rfl
@[simp] theorem State.apart_slots : (s.apart l q now ticks).slots = s.slots := rfl
@[simp] theorem State.apart_strays : (s.apart l q now ticks).strays = s.strays := rfl
@[simp] theorem State.apart_districts : (s.apart l q now ticks).districts = s.districts := rfl
@[simp] theorem State.apart_queue : (s.apart l q now ticks).queue = s.queue := rfl
@[simp] theorem State.apart_flight : (s.apart l q now ticks).flight = s.flight := rfl
@[simp] theorem State.apart_choiceDue : (s.apart l q now ticks).choiceDue = s.choiceDue := rfl
@[simp] theorem State.apart_rqh : (s.apart l q now ticks).rqh = s.rqh := rfl
@[simp] theorem State.apart_freeCount : (s.apart l q now ticks).freeCount = s.freeCount := rfl
@[simp] theorem State.apart_district (d : District) : (s.apart l q now ticks).district d = s.district d := rfl
@[simp] theorem State.apart_watch (d : District) : (s.apart l q now ticks).watch d = s.watch d := rfl
@[simp] theorem State.apart_baseline (d : District) : (s.apart l q now ticks).baseline d = s.baseline d := rfl
@[simp] theorem State.apart_station (p : Position) : (s.apart l q now ticks).station p = s.station p := rfl
@[simp] theorem State.apart_slot (i : SlotIndex) : (s.apart l q now ticks).slot i = s.slot i := rfl
@[simp] theorem State.apart_nightInProgress : (s.apart l q now ticks).nightInProgress = s.nightInProgress := rfl
@[simp] theorem State.apart_enabledLinked (d : District) : (s.apart l q now ticks).enabledLinked d = s.enabledLinked d := rfl
@[simp] theorem State.apart_complete (d : District) : (s.apart l q now ticks).complete d = s.complete d := rfl
@[simp] theorem State.apart_busy : (s.apart l q now ticks).busy = s.busy := rfl
@[simp] theorem State.apart_lockedFor : (s.apart l q now ticks).lockedFor = s.lockedFor := rfl
@[simp] theorem State.apart_guarded (p : Position) (d : District) : (s.apart l q now ticks).guarded p d = s.guarded p d := rfl
@[simp] theorem State.apart_pendingSomewhere (d : District) : (s.apart l q now ticks).pendingSomewhere d = s.pendingSomewhere d := rfl
@[simp] theorem State.apart_chosen : (s.apart l q now ticks).chosen = s.chosen := rfl
@[simp] theorem State.apart_windowStartOf (n : Nat) : (s.apart l q now ticks).windowStartOf n = s.windowStartOf n := rfl
@[simp] theorem State.apart_windowEndOf (n : Nat) : (s.apart l q now ticks).windowEndOf n = s.windowEndOf n := rfl
@[simp] theorem State.apart_graceExpiryOf (n : Nat) : (s.apart l q now ticks).graceExpiryOf n = s.graceExpiryOf n := rfl
@[simp] theorem State.apart_eligible (n : Nat) : (s.apart l q now ticks).eligible n = s.eligible n := rfl
@[simp] theorem State.apart_agenda (a b : ClockTime) : (s.apart l q now ticks).agenda a b = s.agenda a b := by
  have starts : ∀ n, (s.apart l q now ticks).latestStart a b n = s.latestStart a b n := by
    intro n
    induction n with
    | zero => rfl
    | succ n ih => simp only [State.latestStart, ih]; rfl
  simp only [State.agenda, State.nextNightEvents, starts]
  rfl

end Fields

/-- A fold of operations that leave link and waiting commands alone leaves them alone. -/
theorem foldl_apart {α : Type} {f : State → α → State} (l : Link) (q : List Instr) (now : ClockTime) (ticks : Nat)
    (each : ∀ s a, f (s.apart l q now ticks) a = (f s a).apart l q now ticks) (as : List α) (s : State) :
    as.foldl f (s.apart l q now ticks) = (as.foldl f s).apart l q now ticks := by
  induction as generalizing s with
  | nil => rfl
  | cons a as ih => rw [List.foldl_cons, each, ih, List.foldl_cons]

/-- A case distinction that neither link nor waiting commands decide leaves them alone if both its branches do. -/
theorem ite_apart {l : Link} {q : List Instr} {now : ClockTime} {ticks : Nat} {c c' : Prop} [Decidable c] [Decidable c'] {a b a' b' : State} (same : c' ↔ c)
    (holds : a' = a.apart l q now ticks) (fails : b' = b.apart l q now ticks) :
    (if c' then a' else b') = (if c then a else b).apart l q now ticks := by
  by_cases h : c
  · rw [if_pos h, if_pos (same.2 h), holds]
  · rw [if_neg h, if_neg (same.not.2 h), fails]

section Operations
variable (s : State) (l : Link) (q : List Instr) (now : ClockTime) (ticks : Nat)

theorem State.prompt_apart : (s.apart l q now ticks).prompt = s.prompt.apart l q now ticks :=
  ite_apart Iff.rfl rfl rfl

theorem State.raiseAt_apart (f : EventFlag) (p : Position) :
    (s.apart l q now ticks).raiseAt f p = (s.raiseAt f p).apart l q now ticks :=
  ite_apart Iff.rfl rfl rfl

theorem State.raiseAll_apart (f : EventFlag) : (s.apart l q now ticks).raiseAll f = (s.raiseAll f).apart l q now ticks :=
  foldl_apart l q now ticks (fun s p => s.raiseAt_apart l q now ticks f p) _ s

theorem State.configChanged_apart (p : Position) : (s.apart l q now ticks).configChanged p = (s.configChanged p).apart l q now ticks :=
  foldl_apart l q now ticks (fun s p => s.raiseAt_apart l q now ticks .configChanged p) _ s

theorem State.endCleared_apart (d : District) : (s.apart l q now ticks).endCleared d = (s.endCleared d).apart l q now ticks :=
  ite_apart Iff.rfl rfl rfl

theorem State.alertChanged_apart (d : District) : (s.apart l q now ticks).alertChanged d = (s.alertChanged d).apart l q now ticks :=
  (s.handOver d (s.watch d).alert).endCleared_apart l q now ticks d

theorem State.changeAlert_apart (d : District) (a : Alert) :
    (s.apart l q now ticks).changeAlert d a = (s.changeAlert d a).apart l q now ticks :=
  ite_apart Iff.rfl rfl ((s.setAlert d a).alertChanged_apart l q now ticks d)

theorem State.applyResult_apart (d : District) (st : ResultStatus) (v : Verdict) :
    (s.apart l q now ticks).applyResult d st v = (s.applyResult d st v).apart l q now ticks :=
  ite_apart Iff.rfl (State.alertChanged_apart (s.modWatch d _) l q now ticks d) rfl

theorem State.publishSkipped_apart (d : District) (n : Nat) (why : Reason) :
    (s.apart l q now ticks).publishSkipped d n why = (s.publishSkipped d n why).apart l q now ticks :=
  State.applyResult_apart ((s.setNightState d .skipped).publish d _) l q now ticks d .skipped .none

theorem State.enqueue_apart (d : District) (why : QueueReason) :
    (s.apart l q now ticks).enqueue d why = (s.enqueue d why).apart l q now ticks :=
  State.prompt_apart { s.setNightState d .queued with queue := s.queue ++ [⟨d, why⟩] } l q now ticks

theorem State.completionCheck_apart (d : District) :
    (s.apart l q now ticks).completionCheck d = (s.completionCheck d).apart l q now ticks :=
  ite_apart Iff.rfl (s.enqueue_apart l q now ticks d .complete) rfl

theorem State.completionChecks_apart (ds : List District) :
    ds.foldl State.completionCheck (s.apart l q now ticks) = (ds.foldl State.completionCheck s).apart l q now ticks :=
  foldl_apart l q now ticks (fun s d => s.completionCheck_apart l q now ticks d) ds s

theorem State.checkSlotDistricts_apart (sl : Slot) :
    (s.apart l q now ticks).checkSlotDistricts sl = (s.checkSlotDistricts sl).apart l q now ticks :=
  ite_apart Iff.rfl (s.completionChecks_apart l q now ticks sl.districtsInOrder) rfl

theorem State.nightEndTest_apart : (s.apart l q now ticks).nightEndTest = s.nightEndTest.apart l q now ticks := by
  have raised := State.raiseAll_apart { s with nck.phase := .daytime } l q now ticks .nightClosed
  unfold State.nightEndTest
  exact ite_apart Iff.rfl raised rfl

theorem State.choose_apart : (s.apart l q now ticks).choose = s.choose.apart l q now ticks := by
  refine ite_apart Iff.rfl ?_ rfl
  rw [State.apart_chosen]
  cases s.chosen <;> rfl

theorem State.offer_apart (d : District) (r : Result) : (s.apart l q now ticks).offer d r = (s.offer d r).apart l q now ticks := by
  unfold State.offer
  cases r.figures with
  | none => rfl
  | some g => exact ite_apart Iff.rfl rfl rfl

theorem State.settleResult_apart (d : District) (v : Option Nat) (r : Result) :
    (s.apart l q now ticks).settleResult d v r = (s.settleResult d v r).apart l q now ticks := by
  have settled (f : DistrictRecord → DistrictRecord) : ({ (s.apart l q now ticks).modDistrict d f with flight := none } : State) =
    State.apart { s.modDistrict d f with flight := none } l q now ticks := rfl
  simp only [State.settleResult]
  rw [settled, State.offer_apart, State.applyResult_apart]

theorem State.completeEvaluation_apart : (s.apart l q now ticks).completeEvaluation = s.completeEvaluation.apart l q now ticks := by
  unfold State.completeEvaluation
  rw [State.apart_flight]
  cases s.flight with
  | none => rfl
  | some f =>
    simp only [State.settleResult_apart, State.nightEndTest_apart, State.prompt_apart]

theorem State.assignNight_apart (n : Nat) (d : District) :
    (s.apart l q now ticks).assignNight n d = (s.assignNight n d).apart l q now ticks :=
  ite_apart Iff.rfl (ite_apart Iff.rfl rfl (s.publishSkipped_apart l q now ticks d n .noMeters)) rfl

theorem State.openNight_apart (n : Nat) : (s.apart l q now ticks).openNight n = (s.openNight n).apart l q now ticks := by
  have opened := foldl_apart l q now ticks (fun s d => s.assignNight_apart l q now ticks n d) allDistricts s.purge
  have purged : (s.apart l q now ticks).purge = s.purge.apart l q now ticks := rfl
  simp only [State.openNight, purged, opened]
  generalize allDistricts.foldl (State.assignNight n) s.purge = u
  rfl

theorem State.abandonWaiting_apart (m : Nat) (d : District) :
    (s.apart l q now ticks).abandonWaiting m d = (s.abandonWaiting m d).apart l q now ticks := by
  unfold State.abandonWaiting
  rw [State.apart_district]
  cases (s.district d).nightState
  case opened => exact s.publishSkipped_apart l q now ticks d m .abandoned
  case queued => exact s.publishSkipped_apart l q now ticks d m .abandoned
  all_goals rfl

theorem State.abandonFlight_apart (m : Nat) : (s.apart l q now ticks).abandonFlight m = (s.abandonFlight m).apart l q now ticks := by
  unfold State.abandonFlight
  rw [State.apart_flight]
  cases s.flight with
  | none => rfl
  | some f => exact State.publishSkipped_apart { s with flight := none } l q now ticks f.district m .abandoned

theorem State.abandonNight_apart : (s.apart l q now ticks).abandonNight = s.abandonNight.apart l q now ticks := by
  simp only [State.abandonNight, State.apart_nightDay, State.abandonFlight_apart]
  rw [foldl_apart l q now ticks (fun t d => t.abandonWaiting_apart l q now ticks (s.nck.nightDay.getD 0) d)]
  generalize allDistricts.foldl (State.abandonWaiting (s.nck.nightDay.getD 0)) (s.abandonFlight (s.nck.nightDay.getD 0)) = u
  exact State.raiseAll_apart { u with queue := [], choiceDue := false } l q now ticks .nightClosed

theorem State.reachWindowStart_apart (n : Nat) :
    (s.apart l q now ticks).reachWindowStart n = (s.reachWindowStart n).apart l q now ticks := by
  unfold State.reachWindowStart
  rw [State.apart_phase]
  cases s.nck.phase
  case daytime => exact s.openNight_apart l q now ticks n
  case closing => simp only [State.abandonNight_apart, State.openNight_apart]
  all_goals rfl

theorem State.queueByGrace_apart (d : District) : (s.apart l q now ticks).queueByGrace d = (s.queueByGrace d).apart l q now ticks :=
  ite_apart Iff.rfl (s.enqueue_apart l q now ticks d .grace) rfl

theorem State.closeByGrace_apart : (s.apart l q now ticks).closeByGrace = s.closeByGrace.apart l q now ticks := by
  simp only [State.closeByGrace]
  rw [foldl_apart l q now ticks (fun s d => s.queueByGrace_apart l q now ticks d)]
  generalize allDistricts.foldl State.queueByGrace s = u
  exact State.nightEndTest_apart { u with nck.phase := .closing } l q now ticks

theorem State.reachGraceExpiry_apart : (s.apart l q now ticks).reachGraceExpiry = s.reachGraceExpiry.apart l q now ticks :=
  ite_apart Iff.rfl (s.closeByGrace_apart l q now ticks) rfl

theorem State.reachWindowEnd_apart : (s.apart l q now ticks).reachWindowEnd = s.reachWindowEnd.apart l q now ticks := by
  have ended : State.nightEndTest (allDistricts.foldl State.completionCheck { s.apart l q now ticks with nck.phase := .settling }) =
      (State.nightEndTest (allDistricts.foldl State.completionCheck { s with nck.phase := .settling })).apart l q now ticks := by
    rw [← State.nightEndTest_apart, ← State.completionChecks_apart]; rfl
  unfold State.reachWindowEnd
  exact ite_apart Iff.rfl (ite_apart Iff.rfl
    ((congrArg State.reachGraceExpiry ended).trans (State.reachGraceExpiry_apart _ l q now ticks)) ended) rfl

theorem State.expireHold_apart (d : District) : (s.apart l q now ticks).expireHold d = (s.expireHold d).apart l q now ticks := by
  unfold State.expireHold
  rw [State.apart_district]
  cases (s.district d).hold with
  | none => rfl
  | some h =>
    exact (congrArg State.prompt ((s.removeHold d).raiseAt_apart l q now ticks .holdEnded h.holder)).trans (State.prompt_apart _ l q now ticks)

theorem State.reach_apart (e : ClockEvent) : (s.apart l q now ticks).reach e = (s.reach e).apart l q now ticks := by
  cases e with
  | windowStart n => exact s.reachWindowStart_apart l q now ticks n
  | windowEnd => exact s.reachWindowEnd_apart l q now ticks
  | graceExpiry => exact s.reachGraceExpiry_apart l q now ticks
  | holdExpiry d => exact s.expireHold_apart l q now ticks d

theorem State.reachInJump_apart (e : ClockEvent) : (s.apart l q now ticks).reachInJump e = (s.reachInJump e).apart l q now ticks := by
  unfold State.reachInJump
  rw [State.reach_apart]
  exact ite_apart Iff.rfl ((s.reach e).choose_apart l q now ticks) rfl

theorem State.runAgenda_apart {take : State → ClockEvent → State}
    (each : ∀ s e, take (s.apart l q now ticks) e = (take s e).apart l q now ticks) (fuel : Nat) (a : List (ClockTime × ClockEvent)) :
    State.runAgenda take fuel a (s.apart l q now ticks) = (State.runAgenda take fuel a s).apart l q now ticks := by
  induction fuel generalizing a s with
  | zero => rfl
  | succ fuel ih =>
    simp only [State.runAgenda, State.apart_freeCount]
    split
    · rfl
    · rw [each, ih]
    · rw [← ih, ← each]; rfl

theorem State.takeSpan_apart {take : State → ClockEvent → State}
    (each : ∀ s e, take (s.apart l q now ticks) e = (take s e).apart l q now ticks) (a b : ClockTime) :
    (s.apart l q now ticks).takeSpan take a b = (s.takeSpan take a b).apart l q now ticks := by
  rw [State.takeSpan, State.apart_agenda, State.runAgenda_apart s l q now ticks each]; rfl

theorem State.expireIfReached_apart (t : ClockTime) (d : District) :
    State.expireIfReached t (s.apart l q now ticks) d = (State.expireIfReached t s d).apart l q now ticks := by
  unfold State.expireIfReached
  rw [State.apart_district]
  cases (s.district d).hold with
  | none => rfl
  | some h => exact ite_apart Iff.rfl (s.expireHold_apart l q now ticks d) rfl

theorem State.flagHolder_apart (d : District) : (s.apart l q now ticks).flagHolder d = (s.flagHolder d).apart l q now ticks := by
  unfold State.flagHolder
  rw [State.apart_district]
  cases (s.district d).hold with
  | none => rfl
  | some h => exact s.raiseAt_apart l q now ticks .holdEnded h.holder

theorem State.restart_apart : (s.apart l q now ticks).restart = s.restart.apart l q now ticks := by
  have flagged := foldl_apart l q now ticks (fun s d => s.flagHolder_apart l q now ticks d) allDistricts
    (State.purge { s with flight := none, queue := [], choiceDue := false })
  have cleared : State.purge { s.apart l q now ticks with flight := none, queue := [], choiceDue := false } =
    (State.purge { s with flight := none, queue := [], choiceDue := false }).apart l q now ticks := rfl
  simp only [State.restart, cleared, flagged]
  generalize allDistricts.foldl State.flagHolder (State.purge { s with flight := none, queue := [], choiceDue := false }) = u
  rfl

end Operations

/-! ## Link and waiting commands alone -/

@[simp] theorem State.outside_self (s : State) : s.outside s.link s.pending = s := rfl

section Outside
variable (l : Link) (q : List Instr)

/-- What reads neither link, waiting commands nor clock leaves link and waiting commands alone. -/
theorem outside_of_apart {f : State → State}
    (own : ∀ s l q now ticks, f (s.apart l q now ticks) = (f s).apart l q now ticks) (s : State) :
    f (s.outside l q) = (f s).outside l q := by
  have here : f s = (f s).apart s.link s.pending s.nck.clock s.nck.divider := own s s.link s.pending s.nck.clock s.nck.divider
  calc f (s.outside l q) = (f s).apart l q s.nck.clock s.nck.divider := own s l q s.nck.clock s.nck.divider
    _ = ((f s).apart s.link s.pending s.nck.clock s.nck.divider).outside l q := rfl
    _ = (f s).outside l q := by rw [← here]

theorem foldl_outside {α : Type} {f : State → α → State} (each : ∀ s a, f (s.outside l q) a = (f s a).outside l q)
    (as : List α) (s : State) : as.foldl f (s.outside l q) = (as.foldl f s).outside l q := by
  induction as generalizing s with
  | nil => rfl
  | cons a as ih => rw [List.foldl_cons, each, ih, List.foldl_cons]

theorem ite_outside {l : Link} {q : List Instr} {c c' : Prop} [Decidable c] [Decidable c'] {a b a' b' : State} (same : c' ↔ c)
    (holds : a' = a.outside l q) (fails : b' = b.outside l q) :
    (if c' then a' else b') = (if c then a else b).outside l q := by
  by_cases h : c
  · rw [if_pos h, if_pos (same.2 h), holds]
  · rw [if_neg h, if_neg (same.not.2 h), fails]

end Outside

section Rules
variable (s : State) (l : Link) (q : List Instr)

@[simp] theorem State.outside_nck : (s.outside l q).nck = s.nck := rfl
@[simp] theorem State.outside_district (d : District) : (s.outside l q).district d = s.district d := rfl
@[simp] theorem State.outside_station (p : Position) : (s.outside l q).station p = s.station p := rfl
@[simp] theorem State.outside_slot (i : SlotIndex) : (s.outside l q).slot i = s.slot i := rfl
@[simp] theorem State.outside_guarded (p : Position) (d : District) : (s.outside l q).guarded p d = s.guarded p d := rfl

theorem State.prompt_outside : (s.outside l q).prompt = s.prompt.outside l q :=
  outside_of_apart l q State.prompt_apart s

theorem State.configChanged_outside (p : Position) :
    (s.outside l q).configChanged p = (s.configChanged p).outside l q :=
  outside_of_apart l q (f := (State.configChanged · p)) (fun s l q now ticks => s.configChanged_apart l q now ticks p) s

theorem State.endCleared_outside (d : District) : (s.outside l q).endCleared d = (s.endCleared d).outside l q :=
  outside_of_apart l q (f := (State.endCleared · d)) (fun s l q now ticks => s.endCleared_apart l q now ticks d) s

theorem State.changeAlert_outside (d : District) (a : Alert) :
    (s.outside l q).changeAlert d a = (s.changeAlert d a).outside l q :=
  outside_of_apart l q (f := (State.changeAlert · d a)) (fun s l q now ticks => s.changeAlert_apart l q now ticks d a) s

theorem State.checkSlotDistricts_outside (sl : Slot) :
    (s.outside l q).checkSlotDistricts sl = (s.checkSlotDistricts sl).outside l q :=
  outside_of_apart l q (f := (State.checkSlotDistricts · sl)) (fun s l q now ticks => s.checkSlotDistricts_apart l q now ticks sl) s

theorem State.nightEndTest_outside : (s.outside l q).nightEndTest = s.nightEndTest.outside l q :=
  outside_of_apart l q State.nightEndTest_apart s

theorem State.choose_outside : (s.outside l q).choose = s.choose.outside l q :=
  outside_of_apart l q State.choose_apart s

theorem State.completeEvaluation_outside : (s.outside l q).completeEvaluation = s.completeEvaluation.outside l q :=
  outside_of_apart l q State.completeEvaluation_apart s

theorem State.openNight_outside (n : Nat) : (s.outside l q).openNight n = (s.openNight n).outside l q :=
  outside_of_apart l q (f := (State.openNight · n)) (fun s l q now ticks => s.openNight_apart l q now ticks n) s

theorem State.reach_outside (e : ClockEvent) : (s.outside l q).reach e = (s.reach e).outside l q :=
  outside_of_apart l q (f := (State.reach · e)) (fun s l q now ticks => s.reach_apart l q now ticks e) s

theorem State.closeByGrace_outside : (s.outside l q).closeByGrace = s.closeByGrace.outside l q :=
  outside_of_apart l q State.closeByGrace_apart s

theorem State.restart_outside : (s.outside l q).restart = s.restart.outside l q :=
  outside_of_apart l q State.restart_apart s

theorem State.expireIfReached_outside (t : ClockTime) (d : District) :
    State.expireIfReached t (s.outside l q) d = (State.expireIfReached t s d).outside l q :=
  outside_of_apart l q (f := (State.expireIfReached t · d)) (fun s l q now ticks => s.expireIfReached_apart l q now ticks t d) s

theorem State.takeSpan_outside {take : State → ClockEvent → State}
    (each : ∀ s l q now ticks e, take (s.apart l q now ticks) e = (take s e).apart l q now ticks) (a b : ClockTime) :
    (s.outside l q).takeSpan take a b = (s.takeSpan take a b).outside l q :=
  outside_of_apart l q (f := (State.takeSpan · take a b))
    (fun s l q now ticks => s.takeSpan_apart l q now ticks (fun s e => each s l q now ticks e) a b) s

theorem State.forwardSet_outside (t : ClockTime) : (s.outside l q).forwardSet t = (s.forwardSet t).outside l q :=
  (s.placeClock t).takeSpan_outside l q State.reachInJump_apart s.nck.clock t

theorem State.minuteEvent_outside : (s.outside l q).minuteEvent = s.minuteEvent.outside l q :=
  ite_outside Iff.rfl
    (ite_outside Iff.rfl rfl
      (State.takeSpan_outside { s with nck.divider := 0, nck.clock := s.nck.clock.plus 1 } l q State.reach_apart
        s.nck.clock (s.nck.clock.plus 1)))
    rfl

theorem State.firstSet_outside (t : ClockTime) : (s.outside l q).firstSet t = (s.firstSet t).outside l q := by
  have expired : allDistricts.foldl (State.expireIfReached t) { (s.outside l q).placeClock t with nck.clockSet := true } =
      (allDistricts.foldl (State.expireIfReached t) { s.placeClock t with nck.clockSet := true }).outside l q :=
    foldl_outside l q (fun s d => s.expireIfReached_outside l q t d) allDistricts { s.placeClock t with nck.clockSet := true }
  unfold State.firstSet
  dsimp only
  rw [expired]
  generalize allDistricts.foldl (State.expireIfReached t) { s.placeClock t with nck.clockSet := true } = u
  exact ite_outside Iff.rfl (u.openNight_outside l q t.day) rfl

end Rules

end Sys2Proof.Machine
end

section
/-!
PROOF. No request's own rule reads or moves the link or the queue of waiting commands (R184).
-/

namespace Sys2Proof.Machine

/-- What a request leaves and answers, on the part with another link state and other waiting commands. -/
def elsewhere (l : Link) (q : List Instr) (r : State × Reply) : State × Reply := (r.1.outside l q, r.2)

theorem ite_elsewhere {l : Link} {q : List Instr} {c c' : Prop} [Decidable c] [Decidable c'] {a b a' b' : State × Reply}
    (same : c' ↔ c) (holds : a' = elsewhere l q a) (fails : b' = elsewhere l q b) :
    (if c' then a' else b') = elsewhere l q (if c then a else b) := by
  by_cases h : c
  · rw [if_pos h, if_pos (same.2 h), holds]
  · rw [if_neg h, if_neg (same.not.2 h), fails]

theorem accept_elsewhere {l : Link} {q : List Instr} {s t : State} (same : t = s.outside l q) (out : List Byte) :
    accept t out = elsewhere l q (accept s out) := by
  rw [same]; rfl

section Handlers
variable (s : State) (l : Link) (q : List Instr) (p : Position) (body : List Byte)

theorem setTime_outside : setTime (s.outside l q) p body = elsewhere l q (setTime s p body) := by
  unfold setTime
  cases readSetTime body with
  | none => rfl
  | some t =>
    exact ite_elsewhere Iff.rfl rfl (ite_elsewhere Iff.rfl (accept_elsewhere (s.firstSet_outside l q t) [])
      (ite_elsewhere Iff.rfl rfl (ite_elsewhere Iff.rfl (accept_elsewhere (s.forwardSet_outside l q t) [])
        (ite_elsewhere Iff.rfl rfl rfl))))

theorem setWindow_outside : setWindow (s.outside l q) p body = elsewhere l q (setWindow s p body) := by
  unfold setWindow
  cases readSetWindow body with
  | none => rfl
  | some f => exact ite_elsewhere Iff.rfl rfl (ite_elsewhere Iff.rfl rfl rfl)

theorem closeNight_outside : closeNight (s.outside l q) p body = elsewhere l q (closeNight s p body) :=
  ite_elsewhere Iff.rfl rfl (ite_elsewhere Iff.rfl (accept_elsewhere (s.closeByGrace_outside l q) []) rfl)

theorem restartEngine_outside : restartEngine (s.outside l q) p body = elsewhere l q (restartEngine s p body) :=
  ite_elsewhere Iff.rfl rfl (accept_elsewhere (s.restart_outside l q) [])

theorem bindMeter_outside : bindMeter (s.outside l q) p body = elsewhere l q (bindMeter s p body) := by
  unfold bindMeter
  cases readBind body with
  | none => rfl
  | some f =>
    cases h₁ : resolveLink f.primary with
    | none => simp only [h₁]; rfl
    | some primary =>
      cases h₂ : resolveLink f.secondary with
      | none => simp only [h₁, h₂]; rfl
      | some secondary =>
        simp only [h₁, h₂]
        exact ite_elsewhere Iff.rfl rfl (ite_elsewhere Iff.rfl rfl (ite_elsewhere Iff.rfl rfl (ite_elsewhere Iff.rfl rfl
          (accept_elsewhere (State.configChanged_outside (s.modSlot f.slot (fun _ => boundSlot f.identifier primary secondary f.protect)) l q p) []))))

theorem enableMeter_outside : enableMeter (s.outside l q) p body = elsewhere l q (enableMeter s p body) := by
  unfold enableMeter
  cases readOne body with
  | none => rfl
  | some b =>
    exact ite_elsewhere Iff.rfl rfl (ite_elsewhere Iff.rfl rfl (ite_elsewhere Iff.rfl rfl (ite_elsewhere Iff.rfl rfl
      (ite_elsewhere Iff.rfl rfl (accept_elsewhere (State.configChanged_outside
        { s.modSlot (slotOf b) (fun x => { x with enabled := true }) with
          strays := s.strays.filter (fun x => decide (x.identifier ≠ (s.slot (slotOf b)).identifier)) } l q p) [])))))

theorem disableMeter_outside : disableMeter (s.outside l q) p body = elsewhere l q (disableMeter s p body) := by
  unfold disableMeter
  cases readOne body with
  | none => rfl
  | some b =>
    have checked := (s.modSlot (slotOf b) (fun x => { x with enabled := false })).checkSlotDistricts_outside l q (s.slot (slotOf b))
    exact ite_elsewhere Iff.rfl rfl (ite_elsewhere Iff.rfl rfl (ite_elsewhere Iff.rfl rfl (accept_elsewhere
      ((congrArg (State.configChanged · p) checked).trans (State.configChanged_outside _ l q p)) [])))

theorem forgetStrays_outside : forgetStrays (s.outside l q) p body = elsewhere l q (forgetStrays s p body) :=
  ite_elsewhere Iff.rfl rfl rfl

theorem State.fileEntry_outside (i : SlotIndex) (k v : Nat) (e c : Bool) :
    (s.outside l q).fileEntry i k v e c = ((s.fileEntry i k v e c).1.outside l q, (s.fileEntry i k v e c).2) := by
  have stored (t : State) : ({ t.outside l q with counters.readingsStored := bump 65535 (t.outside l q).counters.readingsStored } : State) =
    State.outside { t with counters.readingsStored := bump 65535 t.counters.readingsStored } l q := rfl
  have written (f : Slot → Slot) : (s.outside l q).modSlot i f = (s.modSlot i f).outside l q := rfl
  have cell : (s.outside l q).cellIndex k = s.cellIndex k := rfl
  unfold State.fileEntry
  dsimp only
  rw [State.outside_slot, cell, written, stored, State.checkSlotDistricts_outside]
  split <;> rfl

theorem State.examine_outside (e : Entry) :
    (s.outside l q).examine e = ((s.examine e).1.outside l q, (s.examine e).2) := by
  have lookup : (s.outside l q).lookup e.identifier = s.lookup e.identifier := rfl
  have early : (s.outside l q).early e.day e.interval = s.early e.day e.interval := rfl
  have outside : (s.outside l q).outsideWindow e.day e.interval = s.outsideWindow e.day e.interval := rfl
  have late : (s.outside l q).lateForNight e.day = s.lateForNight e.day := rfl
  unfold State.examine
  rw [lookup]
  cases s.lookup e.identifier with
  | none => rfl
  | some i =>
    simp only [State.outside_slot, State.outside_district, early, outside, late, State.fileEntry_outside]
    repeat' split
    all_goals rfl

theorem State.examineAll_outside (es : List Entry) :
    (s.outside l q).examineAll es = ((s.examineAll es).1.outside l q, (s.examineAll es).2) := by
  induction es generalizing s with
  | nil => rfl
  | cons e es ih => simp only [State.examineAll, State.examine_outside, ih]

theorem postReading_outside : postReading (s.outside l q) p body = elsewhere l q (postReading s p body) := by
  refine ite_elsewhere Iff.rfl rfl ?_
  cases readReadings body with
  | error st => rfl
  | ok es => simp only [State.examineAll_outside]; rfl

theorem State.judgePressure_outside (d : District) (day k v : Nat) :
    (s.outside l q).judgePressure d day k v = ((s.judgePressure d day k v).1.outside l q, (s.judgePressure d day k v).2) := by
  have early : (s.outside l q).early day k = s.early day k := rfl
  have outside : (s.outside l q).outsideWindow day k = s.outsideWindow day k := rfl
  have late : (s.outside l q).lateForNight day = s.lateForNight day := rfl
  unfold State.judgePressure
  rw [State.outside_district, early, outside, late]
  dsimp only
  repeat' split
  all_goals rfl

theorem postPressure_outside : postPressure (s.outside l q) p body = elsewhere l q (postPressure s p body) := by
  refine ite_elsewhere Iff.rfl rfl ?_
  cases readPressure body with
  | none => rfl
  | some f =>
    dsimp only
    cases districtOf f.district with
    | none => rfl
    | some d =>
      refine ite_elsewhere Iff.rfl rfl ?_
      simp only [State.judgePressure_outside]; rfl

theorem configureDistrict_outside : configureDistrict (s.outside l q) p body = elsewhere l q (configureDistrict s p body) := by
  unfold configureDistrict
  cases readConfig body with
  | none => rfl
  | some f =>
    cases h₁ : districtOf f.district with
    | none => simp only [h₁]; rfl
    | some d =>
      cases h₂ : f.params with
      | none => simp only [h₁, h₂]; rfl
      | some ps =>
        simp only [h₁, h₂, State.outside_guarded]
        refine ite_elsewhere Iff.rfl rfl ?_
        cases s.guarded p d with
        | some st => rfl
        | none =>
          exact accept_elsewhere (State.configChanged_outside ((s.modDistrict d (fun r => { r with params := ps })).modWatch d
            (fun w => { w with excess := min w.excess ps.nConfirm })) l q p) []

theorem State.takeOut_outside (d : District) : (s.outside l q).takeOut d = (s.takeOut d).outside l q := by
  have out (f : DistrictRecord → DistrictRecord) (g : Watch → Watch) :
      ((({ s.outside l q with queue := (s.outside l q).queue.filter (fun e => decide (e.district ≠ d)) } : State).modDistrict d f).modWatch d g) =
      State.outside ((({ s with queue := s.queue.filter (fun e => decide (e.district ≠ d)) } : State).modDistrict d f).modWatch d g) l q := rfl
  have unheld (t : State) : (t.outside l q).removeHold d = (t.removeHold d).outside l q := rfl
  simp only [State.takeOut]
  rw [out, State.changeAlert_outside, State.outside_district, unheld, State.prompt_outside]
  split <;> exact State.nightEndTest_outside _ l q

theorem setService_outside : setService (s.outside l q) p body = elsewhere l q (setService s p body) := by
  unfold setService
  cases readService body with
  | none => rfl
  | some f =>
    obtain ⟨b, r⟩ := f
    dsimp only
    cases districtOf b with
    | none => rfl
    | some d =>
      refine ite_elsewhere Iff.rfl rfl (ite_elsewhere Iff.rfl rfl ?_)
      rw [State.outside_guarded, State.takeOut_outside]
      cases s.guarded p d with
      | some st => rfl
      | none =>
        have moved : (if r = 1 then (s.outside l q).putIn d else (s.takeOut d).outside l q) =
          (if r = 1 then s.putIn d else s.takeOut d).outside l q := ite_outside Iff.rfl rfl rfl
        exact accept_elsewhere ((congrArg (State.configChanged · p) moved).trans (State.configChanged_outside _ l q p)) []

theorem holdDistrict_outside : holdDistrict (s.outside l q) p body = elsewhere l q (holdDistrict s p body) := by
  unfold holdDistrict
  cases readHold body with
  | none => rfl
  | some f =>
    obtain ⟨b, minutes⟩ := f
    dsimp only
    cases districtOf b with
    | none => rfl
    | some d =>
      refine ite_elsewhere Iff.rfl rfl ?_
      rw [State.outside_guarded]
      cases s.guarded p d <;> rfl

theorem releaseDistrict_outside : releaseDistrict (s.outside l q) p body = elsewhere l q (releaseDistrict s p body) := by
  unfold releaseDistrict
  cases readOne body with
  | none => rfl
  | some b =>
    dsimp only
    cases districtOf b with
    | none => rfl
    | some d =>
      simp only [State.outside_district]
      cases (s.district d).hold with
      | none => rfl
      | some h => exact ite_elsewhere Iff.rfl (accept_elsewhere ((s.removeHold d).prompt_outside l q) []) rfl

/-- The two last actions of an accepted baseline request. -/
theorem State.rejudge_outside (d : District) :
    ((s.outside l q).configChanged p).rejudge d = ((s.configChanged p).rejudge d).outside l q := by
  rw [State.configChanged_outside]; rfl

theorem setBaselineMode_outside : setBaselineMode (s.outside l q) p body = elsewhere l q (setBaselineMode s p body) := by
  unfold setBaselineMode
  cases readMode body with
  | none => rfl
  | some f =>
    cases h₁ : districtOf f.district with
    | none => simp only [h₁]; rfl
    | some d =>
      cases h₂ : BaselineMode.ofByte f.mode with
      | none => simp only [h₁, h₂]; rfl
      | some mode =>
        simp only [h₁, h₂, State.outside_guarded]
        refine ite_elsewhere Iff.rfl rfl ?_
        cases s.guarded p d with
        | some st => rfl
        | none =>
          exact accept_elsewhere ((s.modBaseline d (fun bl => { bl with mode := mode, rank := f.rank, fixed := f.fixed })).rejudge_outside
            l q p d) []

theorem loadRing_outside : loadRing (s.outside l q) p body = elsewhere l q (loadRing s p body) := by
  unfold loadRing
  cases readLoadRing body with
  | none => rfl
  | some f =>
    dsimp only
    cases districtOf f.district with
    | none => rfl
    | some d =>
      refine ite_elsewhere Iff.rfl rfl ?_
      rw [State.outside_guarded]
      cases s.guarded p d with
      | some st => rfl
      | none => exact accept_elsewhere ((s.modBaseline d (fun bl => { bl with ring := f.entries })).rejudge_outside l q p d) []

theorem clearRing_outside : clearRing (s.outside l q) p body = elsewhere l q (clearRing s p body) := by
  unfold clearRing
  cases readOne body with
  | none => rfl
  | some b =>
    dsimp only
    cases districtOf b with
    | none => rfl
    | some d =>
      simp only [State.outside_guarded]
      cases s.guarded p d with
      | some st => rfl
      | none => exact accept_elsewhere ((s.modBaseline d (fun bl => { bl with ring := [] })).rejudge_outside l q p d) []

theorem State.acknowledge_outside (d : District) : (s.outside l q).acknowledge d = (s.acknowledge d).outside l q :=
  ite_outside Iff.rfl rfl (s.changeAlert_outside l q d .none)

theorem State.markRepaired_outside (d : District) : (s.outside l q).markRepaired d = (s.markRepaired d).outside l q :=
  (s.modWatch d _).changeAlert_outside l q d .cleared

theorem acknowledge_outside : acknowledge (s.outside l q) p body = elsewhere l q (acknowledge s p body) := by
  unfold acknowledge
  cases readOne body with
  | none => rfl
  | some b =>
    dsimp only
    cases districtOf b with
    | none => rfl
    | some d =>
      refine ite_elsewhere Iff.rfl rfl (ite_elsewhere Iff.rfl rfl ?_)
      rw [State.acknowledge_outside]; rfl

theorem markRepaired_outside : markRepaired (s.outside l q) p body = elsewhere l q (markRepaired s p body) := by
  unfold markRepaired
  cases readOne body with
  | none => rfl
  | some b =>
    dsimp only
    cases districtOf b with
    | none => rfl
    | some d =>
      refine ite_elsewhere Iff.rfl rfl (ite_elsewhere Iff.rfl rfl ?_)
      rw [State.markRepaired_outside]; rfl

theorem State.endHoldsOf_outside : (s.outside l q).endHoldsOf p = (s.endHoldsOf p).outside l q :=
  ite_outside Iff.rfl
    (State.prompt_outside { s with districts := s.districts.map (DistrictRecord.withoutHoldOf p) } l q) rfl

theorem State.setStation_outside (st : Station) : (s.outside l q).setStation p st = (s.setStation p st).outside l q := by
  have written : (s.outside l q).writeEntry p st = (s.writeEntry p st).outside l q := rfl
  unfold State.setStation
  dsimp only
  rw [written, State.outside_station, State.endHoldsOf_outside]
  split <;> exact foldl_outside l q (fun s d => s.endCleared_outside l q d) _ _

theorem setStation_outside : setStation (s.outside l q) p body = elsewhere l q (setStation s p body) := by
  unfold setStation
  cases readStation body with
  | none => rfl
  | some f =>
    dsimp only
    cases stationRoleOf f.role with
    | none => rfl
    | some role =>
      dsimp only
      by_cases h : 1 ≤ f.position ∧ f.position < 4
      · rw [dif_pos h, dif_pos h]
        refine ite_elsewhere Iff.rfl rfl ?_
        rcases role with _ | _ | _ | _ | _
        case none => exact accept_elsewhere (s.setStation_outside l q _ _) []
        case some.telemetry => rfl
        all_goals exact ite_elsewhere Iff.rfl rfl (ite_elsewhere Iff.rfl rfl (accept_elsewhere (s.setStation_outside l q _ _) []))
      · rw [dif_neg h, dif_neg h]; rfl

theorem setEventMask_outside : setEventMask (s.outside l q) p body = elsewhere l q (setEventMask s p body) := by
  unfold setEventMask
  cases readOne body with
  | none => rfl
  | some m => exact ite_elsewhere Iff.rfl rfl rfl

theorem takeNotice_outside : takeNotice (s.outside l q) p body = elsewhere l q (takeNotice s p body) := by
  have same : (s.outside l q).noticeChoice p = s.noticeChoice p := rfl
  refine ite_elsewhere Iff.rfl rfl ?_
  rw [same]
  cases s.noticeChoice p <;> rfl

theorem readEvents_outside : readEvents (s.outside l q) p body = elsewhere l q (readEvents s p body) :=
  ite_elsewhere Iff.rfl rfl rfl

theorem clearCounters_outside : clearCounters (s.outside l q) p body = elsewhere l q (clearCounters s p body) :=
  ite_elsewhere Iff.rfl rfl rfl

theorem readMeter_outside : readMeter (s.outside l q) p body = elsewhere l q (readMeter s p body) := by
  unfold readMeter
  cases readOne body <;> rfl

theorem readStrayList_outside : readStrayList (s.outside l q) p body = elsewhere l q (readStrayList s p body) :=
  ite_elsewhere Iff.rfl rfl rfl

theorem readDistrict_outside : readDistrict (s.outside l q) p body = elsewhere l q (readDistrict s p body) := by
  unfold readDistrict
  cases readOne body with
  | none => rfl
  | some b => dsimp only; cases districtOf b <;> rfl

theorem readResult_outside : readResult (s.outside l q) p body = elsewhere l q (readResult s p body) := by
  unfold readResult
  cases readOne body with
  | none => rfl
  | some b =>
    dsimp only
    cases districtOf b with
    | none => rfl
    | some d => simp only [State.outside_district]; cases (s.district d).result <;> rfl

theorem readQueue_outside : readQueue (s.outside l q) p body = elsewhere l q (readQueue s p body) :=
  ite_elsewhere Iff.rfl rfl rfl

theorem readRing_outside : readRing (s.outside l q) p body = elsewhere l q (readRing s p body) := by
  unfold readRing
  cases readOne body with
  | none => rfl
  | some b => dsimp only; cases districtOf b <;> rfl

theorem readWatch_outside : readWatch (s.outside l q) p body = elsewhere l q (readWatch s p body) := by
  unfold readWatch
  cases readOne body with
  | none => rfl
  | some b => dsimp only; cases districtOf b <;> rfl

theorem readStatus_outside : readStatus (s.outside l q) p body = elsewhere l q (readStatus s p body) :=
  ite_elsewhere Iff.rfl rfl rfl

/-- The rule of every kind neither reads nor moves the link or the waiting commands. -/
theorem handle_outside (k : Kind) : handle k (s.outside l q) p body = elsewhere l q (handle k s p body) := by
  cases k
  case setTime => exact setTime_outside s l q p body
  case setWindow => exact setWindow_outside s l q p body
  case closeNight => exact closeNight_outside s l q p body
  case restartEngine => exact restartEngine_outside s l q p body
  case bindMeter => exact bindMeter_outside s l q p body
  case enableMeter => exact enableMeter_outside s l q p body
  case disableMeter => exact disableMeter_outside s l q p body
  case readMeter => exact readMeter_outside s l q p body
  case readStrayList => exact readStrayList_outside s l q p body
  case forgetStrays => exact forgetStrays_outside s l q p body
  case postReading => exact postReading_outside s l q p body
  case postPressure => exact postPressure_outside s l q p body
  case configureDistrict => exact configureDistrict_outside s l q p body
  case setService => exact setService_outside s l q p body
  case holdDistrict => exact holdDistrict_outside s l q p body
  case releaseDistrict => exact releaseDistrict_outside s l q p body
  case readDistrict => exact readDistrict_outside s l q p body
  case readResult => exact readResult_outside s l q p body
  case readQueue => exact readQueue_outside s l q p body
  case setBaselineMode => exact setBaselineMode_outside s l q p body
  case loadRing => exact loadRing_outside s l q p body
  case clearRing => exact clearRing_outside s l q p body
  case readRing => exact readRing_outside s l q p body
  case acknowledge => exact acknowledge_outside s l q p body
  case markRepaired => exact markRepaired_outside s l q p body
  case readWatch => exact readWatch_outside s l q p body
  case setStation => exact setStation_outside s l q p body
  case setEventMask => exact setEventMask_outside s l q p body
  case takeNotice => exact takeNotice_outside s l q p body
  case readEvents => exact readEvents_outside s l q p body
  case readStatus => exact readStatus_outside s l q p body
  case clearCounters => exact clearCounters_outside s l q p body

end Handlers

/-- The rule of a request leaves the link and the waiting commands as they are. -/
theorem handle_link_pending (k : Kind) (s : State) (p : Position) (body : List Byte) :
    (handle k s p body).1.link = s.link ∧ (handle k s p body).1.pending = s.pending := by
  have own := handle_outside s s.link s.pending p body k
  rw [State.outside_self] at own
  rw [own]
  exact ⟨rfl, rfl⟩

/-- The rule of a request on the state that has received its message. -/
theorem handle_received (k : Kind) (s : State) (p : Position) (body m : List Byte) :
    handle k (s.received m) p body = ((handle k s p body).1.received m, (handle k s p body).2) := by
  have there := handle_outside s (s.received m).link s.pending p body k
  have kept := handle_link_pending k s p body
  rw [show s.received m = s.outside (s.received m).link s.pending from rfl, there]
  refine Prod.ext ?_ rfl
  unfold elsewhere State.outside State.received
  rw [kept.1, ← kept.2]

end Sys2Proof.Machine
end

section
/-!
PROOF. Every command answers a next state and leaves the waiting commands (logs 2, 12), and every request row is its kind's rule,
answered (R160, R184).
-/

namespace Sys2Proof.Machine

/-! ## The waiting commands -/

/-- An operation that moves neither link nor waiting commands keeps the waiting commands. -/
theorem pending_of_outside {f : State → State} (own : ∀ s l q, f (s.outside l q) = (f s).outside l q) (s : State) :
    (f s).pending = s.pending :=
  Eq.trans (congrArg State.pending (own s s.link s.pending)) rfl

theorem link_of_outside {f : State → State} (own : ∀ s l q, f (s.outside l q) = (f s).outside l q) (s : State) :
    (f s).link = s.link :=
  Eq.trans (congrArg State.link (own s s.link s.pending)) rfl

theorem State.reach_pending (s : State) (e : ClockEvent) : (s.reach e).pending = s.pending :=
  pending_of_outside (f := (State.reach · e)) (fun s l q => s.reach_outside l q e) s

@[simp] theorem State.endGrant_pending (s : State) : s.endGrant.pending = s.pending := by rw [State.endGrant_frame]

@[simp] theorem State.timeOut_pending (s : State) : s.timeOut.pending = s.pending := by rw [State.timeOut_frame]

@[simp] theorem State.completeAnswer_pending (s : State) : s.completeAnswer.pending = s.pending := by
  rw [State.completeAnswer, State.endGrant_frame, State.commitEvents_frame, State.commitNotice_frame]

theorem execute_pending (k : Kind) (s : State) (body : List Byte) : (execute k s body).1.pending = s.pending := by
  unfold execute
  cases s.requester with
  | none => rfl
  | some p =>
    dsimp only
    cases (s.station p).role with
    | none => rfl
    | some r =>
      dsimp only
      split
      · exact (handle_link_pending k s p body).2
      · rfl

@[simp] theorem State.messageEnd_pending (s : State) : s.messageEnd.pending = s.pending := by
  unfold State.messageEnd
  split
  · rfl
  · exact execute_pending _ s _

theorem State.request_pending (s : State) (k : Kind) (body : List Byte) : (s.request k body).pending = s.pending := by
  unfold State.request
  split
  · exact State.messageEnd_pending (s.received (requestMessage k body))
  · rfl

@[simp] theorem State.freeFrame_pending (s : State) (a : Option (BitVec 4)) : (s.freeFrame a).pending = s.pending := by
  have counted : ∀ u : State, u.countFreeFrame.pending = u.pending := fun u => by rw [State.countFreeFrame_eq]
  refine (counted _).trans ?_
  cases a with
  | none => rfl
  | some a => dsimp only [State.judgeContention]; split_ifs <;> rfl

@[simp] theorem State.waitFrame_pending (s : State) : s.waitFrame.pending = s.pending := by
  unfold State.waitFrame; split
  · rfl
  · exact s.timeOut_pending

@[simp] theorem State.takeByte_pending (s : State) (b : Byte) : (s.takeByte b).pending = s.pending := by
  unfold State.takeByte; split <;> rfl

@[simp] theorem State.requestFrame_pending (s : State) (uv : Bool) (b : Byte) : (s.requestFrame uv b).pending = s.pending := by
  unfold State.requestFrame
  split
  · exact s.takeByte_pending b
  · exact s.takeByte_pending b
  · exact s.waitFrame_pending
  · exact s.waitFrame_pending
  · rfl
  · dsimp only
    split
    · rfl
    · exact State.messageEnd_pending { s with link.clearFrames := s.link.clearFrames + 1 }

@[simp] theorem State.answerFrame_pending (s : State) (ua : Bool) : (s.answerFrame ua).pending = s.pending := by
  unfold State.answerFrame
  split
  · rfl
  · exact s.waitFrame_pending
  · exact s.waitFrame_pending
  · split <;> rfl

@[simp] theorem State.trailerFrame_pending (s : State) (ends : Bool) : (s.trailerFrame ends).pending = s.pending := by
  unfold State.trailerFrame State.breakGrant
  split_ifs <;> simp

@[simp] theorem State.breakFrame_pending (s : State) : s.breakFrame.pending = s.pending := by
  unfold State.breakFrame State.breakGrant
  split_ifs <;> simp

theorem State.countBreak_pending (s : State) (b : Bool) : (s.countBreak b).pending = s.pending := by
  unfold State.countBreak
  split_ifs <;> rfl

theorem State.frameEnd_pending (s : State) (up : BitVec 32) : (s.frameEnd up).pending = s.pending := by
  rw [← s.countBreak_pending (isBreakFrame up)]
  unfold State.frameEnd State.nextFrame
  dsimp only
  cases (s.countBreak (isBreakFrame up)).link.phase
  case free => exact State.freeFrame_pending _ _
  case request => dsimp only; split <;> simp
  case answer => dsimp only; split <;> simp
  case trailer => exact State.trailerFrame_pending _ _

theorem frameRow_pending (b : Bool) {f : State → State} (keeps : ∀ s, (f s).pending = s.pending) (s : State) :
    (frameRow b f s).pending = s.pending := by
  unfold frameRow
  split
  · exact keeps s
  · rfl

theorem quietRow_pending (b : Bool) {f : State → State} (keeps : ∀ s, (f s).pending = s.pending) (s : State) :
    (quietRow b f s).pending = s.pending :=
  frameRow_pending b (fun s => keeps { s with link.breakRun := 0 }) s

/-- An operation that keeps the waiting commands, taken while RSTN is high. -/
theorem taken_keeps_pending {f : State → State} (keeps : ∀ s, (f s).pending = s.pending) (s : State) :
    ∃ t, taken f s = .next t ∧ t.pending = s.pending := by
  refine ⟨_, rfl, ?_⟩
  split
  · exact keeps s
  · rfl

/-- An event that is taken only where its time has come keeps the waiting commands if the event does. -/
theorem ite_pending {c : Prop} [Decidable c] {s t : State} (keeps : t.pending = s.pending) :
    (if c then t else s).pending = s.pending := by
  split
  · exact keeps
  · rfl

/-! ## The rows of requests -/

/-- A request row is its kind's request with its body. -/
theorem exec_of_request {i : Instr} {k : Kind} {body : List Byte} (kind : i.requestKind = some k)
    (with_ : i.requestBody = some body) (s : State) : exec i s = taken (fun u => u.request k body) s := by
  cases i <;> cases kind <;> cases with_ <;> rfl

/-- A row is a request row, with a kind and a body, or an event row. -/
theorem requestBody_of_requestKind {i : Instr} {k : Kind} (kind : i.requestKind = some k) : ∃ body, i.requestBody = some body := by
  cases i <;> cases kind <;> exact ⟨_, rfl⟩

/-- Settles O2: request rows by the rule of their kind, which keeps the waiting commands; event rows by their operation; the two
resets name the waiting commands as kept. -/
theorem everyCommandKeepsTheQueue : Obligations.EveryCommandKeepsTheQueue := by
  intro s c
  cases request : c.requestKind with
  | some k =>
    obtain ⟨body, with_⟩ := requestBody_of_requestKind request
    rw [exec_of_request request with_]
    exact taken_keeps_pending (fun s => s.request_pending k body) s
  | none =>
    cases c
    case powerOnReset strap => exact ⟨_, rfl, rfl⟩
    case rstnHeldLow => exact ⟨_, rfl, rfl⟩
    case minuteEvent => exact taken_keeps_pending (pending_of_outside State.minuteEvent_outside) s
    case windowStart => exact taken_keeps_pending (fun s => ite_pending (s.reach_pending (.windowStart s.nck.clock.day))) s
    case windowEnd => exact taken_keeps_pending (fun s => ite_pending (s.reach_pending .windowEnd)) s
    case graceExpiry => exact taken_keeps_pending (fun s => ite_pending (s.reach_pending .graceExpiry)) s
    case holdExpiry d =>
      exact taken_keeps_pending (fun s => pending_of_outside (f := (State.expireIfReached s.nck.clock · d))
        (fun u l q => u.expireIfReached_outside l q _ d) s) s
    case choice => exact taken_keeps_pending (pending_of_outside State.choose_outside) s
    case evaluationCompletion => exact taken_keeps_pending (pending_of_outside State.completeEvaluation_outside) s
    case contention a => exact taken_keeps_pending (fun s => quietRow_pending _ (fun s => s.freeFrame_pending (some a)) s) s
    case fairnessHoldCleared => exact taken_keeps_pending (fun s => quietRow_pending _ (f := fun s => { s with link.fairness := none }) (fun _ => rfl) s) s
    case envelopeCheckRefusal m =>
      simp only [exec, execEnvelopeCheckRefusal]
      refine taken_keeps_pending (fun s => ?_) s
      split
      · exact frameRow_pending _ (f := fun s => (s.received m).refuseEnvelope _) (fun _ => rfl) s
      · rfl
    case answerCompletion => exact taken_keeps_pending (fun s => quietRow_pending _ State.completeAnswer_pending s) s
    case handshakeTimeout => exact taken_keeps_pending (fun s => quietRow_pending _ State.timeOut_pending s) s
    case breakEndsGrant =>
      exact taken_keeps_pending (fun s => frameRow_pending _ (fun s => State.endGrant_pending { s with link.breakRun := 2 }) s) s
    case linkBreak => exact taken_keeps_pending (fun s => frameRow_pending _ (f := fun s => { s with
      link.breakRun := 16, link.fairness := none, counters.linkBreaks := bump 65535 s.counters.linkBreaks }) (fun _ => rfl) s) s
    case frameEnd up => exact taken_keeps_pending (fun s => s.frameEnd_pending up) s
    all_goals simp [Instr.requestKind] at request

end Sys2Proof.Machine
end

section
/-!
PROOF. A request of a role without the right is refused ROLE (R160); one out of form is refused LENGTH or RANGE (R184, R193).
-/

namespace Sys2Proof.Machine

/-! ## A request row of the holder -/

/-- What a rule left, with what it answered, on the link. -/
def answeredWith (k : Kind) (body : List Byte) (x : State × Reply) : State := x.1.answered k body x.2.status x.2.body

@[simp] theorem answeredWith_refuse (k : Kind) (body : List Byte) (s : State) (st : Status) :
    answeredWith k body (refuse s st) = s.refusal k body st := rfl

@[simp] theorem answeredWith_accept (k : Kind) (body : List Byte) (s : State) (out : List Byte) :
    answeredWith k body (accept s out) = s.answered k body .ok out := rfl

@[simp] theorem answeredWith_ite (k : Kind) (body : List Byte) {c : Prop} [Decidable c] (x y : State × Reply) :
    answeredWith k body (if c then x else y) = if c then answeredWith k body x else answeredWith k body y :=
  apply_ite _ _ _ _

section
variable {s : State} {p : Position} {r : StationRole} (asks : s.Asks p r) {i : Instr} {k : Kind} {body : List Byte}
  (kind : i.requestKind = some k) (with_ : i.requestBody = some body) (fits : body.length ≤ 61)
include asks kind with_ fits

/-- A request row of the holder is its kind's rule and the answer, if the role holds the right. -/
theorem State.Asks.exec_request (right : mayRequest k r = true) : exec i s = .next (answeredWith k body (handle k s p body)) := by
  rw [asks.exec_handled (exec_of_request kind with_) fits (handle_received k s p body), if_pos right]
  rfl

/-- A request row of the holder is refused ROLE, if the role does not hold the right. -/
theorem State.Asks.exec_request_noRight (noRight : ¬ mayRequest k r = true) : exec i s = .next (s.refusal k body .role) :=
  asks.exec_noRight (exec_of_request kind with_) fits noRight

end

/-! ## Rights (R160) -/

/-- The model's table of rights is R160's. -/
theorem mayRequest_iff (k : Kind) (r : StationRole) : mayRequest k r = true ↔ r.HoldsRight k := by
  cases k <;> cases r <;> simp [mayRequest, StationRole.HoldsRight]

/-- Settles O33: in each line of the table the role does not hold the right. -/
theorem roleWithoutRightIsRefused : Obligations.RoleWithoutRightIsRefused := by
  intro s p r i k body asks kind with_ fits line
  refine asks.exec_request_noRight kind with_ fits ?_
  rw [mayRequest_iff]
  rcases line with ⟨member, other⟩ | ⟨member, rfl | rfl⟩ | ⟨rfl, rfl⟩ | ⟨rfl, rfl⟩
  · cases r
    case telemetry => exact absurd rfl other
    all_goals revert member; cases k <;> simp [StationRole.HoldsRight]
  · revert member; cases k <;> simp [StationRole.HoldsRight]
  · revert member; cases k <;> simp [StationRole.HoldsRight]
  · simp [StationRole.HoldsRight]
  · simp [StationRole.HoldsRight]

/-! ## The sizes of bodies (R184, R193) -/

theorem readOne_eq_none {body : List Byte} (size : body.length ≠ 1) : readOne body = none := by
  unfold readOne; split
  · simp at size
  · rfl

theorem readSetTime_eq_none {body : List Byte} (size : body.length ≠ 4) : readSetTime body = none := by
  unfold readSetTime; split
  · simp at size
  · rfl

theorem readSetWindow_eq_none {body : List Byte} (size : body.length ≠ 3) : readSetWindow body = none := by
  unfold readSetWindow; split
  · simp at size
  · rfl

theorem readBind_eq_none {body : List Byte} (size : body.length ≠ 8) : readBind body = none := by
  unfold readBind; split
  · simp at size
  · rfl

theorem readPressure_eq_none {body : List Byte} (size : body.length ≠ 6) : readPressure body = none := by
  unfold readPressure; split
  · simp at size
  · rfl

theorem readConfig_eq_none {body : List Byte} (size : body.length ≠ 16) : readConfig body = none := by
  unfold readConfig; split
  · simp at size
  · rfl

theorem readService_eq_none {body : List Byte} (size : body.length ≠ 2) : readService body = none := by
  unfold readService; split
  · simp at size
  · rfl

theorem readHold_eq_none {body : List Byte} (size : body.length ≠ 3) : readHold body = none := by
  unfold readHold; split
  · simp at size
  · rfl

theorem readMode_eq_none {body : List Byte} (size : body.length ≠ 6) : readMode body = none := by
  unfold readMode; split
  · simp at size
  · rfl

theorem readStation_eq_none {body : List Byte} (size : body.length ≠ 9) : readStation body = none := by
  unfold readStation; split
  · simp at size
  · rfl

theorem readReadings_of_short {body : List Byte} (short : body.length < 6) : readReadings body = .error .length := by
  unfold readReadings; split
  · simp only [List.length_cons] at short; omega
  · rfl

/-- Ring entries take 6 bytes each. -/
theorem readRingEntries_length {bytes : List Byte} {es : List RingEntry} (read : readRingEntries bytes = some es) :
    bytes.length = 6 * es.length := by
  induction bytes using readRingEntries.induct generalizing es with
  | case1 => simp [readRingEntries] at read; simp [read]
  | case2 n1 n0 f3 f2 f1 f0 rest tail h ih =>
    simp only [readRingEntries, h, Option.some.injEq] at read
    rw [← read]; simp only [List.length_cons, ih h]; omega
  | case3 n1 n0 f3 f2 f1 f0 rest h ih => simp [readRingEntries, h] at read
  | case4 bytes _ _ => rw [readRingEntries] at read <;> simp_all

/-- Bytes that make whole entries are read. -/
theorem readRingEntries_of_length (n : Nat) : ∀ bytes : List Byte, bytes.length = 6 * n → ∃ es, readRingEntries bytes = some es := by
  induction n with
  | zero => intro bytes size; exact ⟨[], by rw [List.eq_nil_of_length_eq_zero size]; rfl⟩
  | succ n ih =>
    intro bytes size
    match bytes, size with
    | n1 :: n0 :: f3 :: f2 :: f1 :: f0 :: rest, size =>
      obtain ⟨es, read⟩ := ih rest (by simp only [List.length_cons] at size; omega)
      exact ⟨_, by rw [readRingEntries, read]⟩

theorem readLoadRing_eq_none {body : List Byte} (size : body.length ≠ 2 + 6 * (body.getD 1 0).toNat) : readLoadRing body = none := by
  unfold readLoadRing
  split
  next d n rest =>
    split
    next es read =>
      have := readRingEntries_length read
      refine if_neg fun count => size ?_
      simp only [List.length_cons, List.getD_cons_succ, List.getD_cons_zero, this, count]; omega
    next => rfl
  next => rfl

/-- A LOAD RING body of the size its count gives is read, and names the district of its first byte. -/
theorem readLoadRing_of_size {body : List Byte} (size : body.length = 2 + 6 * (body.getD 1 0).toNat) :
    ∃ f, readLoadRing body = some f ∧ f.district = body.getD 0 0 := by
  match body, size with
  | d :: n :: rest, size =>
    simp only [List.length_cons, List.getD_cons_succ, List.getD_cons_zero] at size
    obtain ⟨es, read⟩ := readRingEntries_of_length n.toNat rest (by omega)
    have count := readRingEntries_length read
    exact ⟨⟨d, es⟩, by simp only [readLoadRing, read]; rw [if_pos (by omega)], rfl⟩
  | [d], size => simp at size
  | [], size => simp at size

theorem districtOf_eq_none {b : Byte} (above : 32 ≤ b.toNat) : districtOf b = none := dif_neg (by omega)

/-- The body size that R193 gives for a kind; LOAD RING's follows its count, POST READING's is judged by its own checks from 6 bytes on. -/
def bodySizeOf (k : Kind) (body : List Byte) : Nat :=
  match k with
  | .closeNight | .restartEngine | .readStrayList | .forgetStrays | .readQueue | .takeNotice | .readEvents | .readStatus
  | .clearCounters => 0
  | .enableMeter | .disableMeter | .readMeter | .releaseDistrict | .readDistrict | .readResult | .clearRing | .readRing
  | .acknowledge | .markRepaired | .readWatch | .setEventMask => 1
  | .setService => 2
  | .setWindow | .holdDistrict => 3
  | .setTime => 4
  | .postPressure | .setBaselineMode => 6
  | .bindMeter => 8
  | .setStation => 9
  | .configureDistrict => 16
  | .loadRing => 2 + 6 * (body.getD 1 0).toNat
  | .postReading => max 6 body.length

/-- The rule of each kind refuses a body of another size than its own (R184). -/
theorem handle_of_size_ne (k : Kind) (s : State) (p : Position) {body : List Byte} (size : body.length ≠ bodySizeOf k body)
    (clock : k = .postReading ∨ k = .postPressure → s.nck.clockSet = true) : handle k s p body = refuse s .length := by
  have empty : body.length ≠ 0 → body ≠ [] := mt List.length_eq_zero_iff.2
  cases k
  case setTime => simp only [handle, setTime, readSetTime_eq_none size]
  case setWindow => simp only [handle, setWindow, readSetWindow_eq_none size]
  case closeNight => exact if_pos (empty size)
  case restartEngine => exact if_pos (empty size)
  case bindMeter => simp only [handle, bindMeter, readBind_eq_none size]
  case enableMeter => simp only [handle, enableMeter, readOne_eq_none size]
  case disableMeter => simp only [handle, disableMeter, readOne_eq_none size]
  case readMeter => simp only [handle, readMeter, readOne_eq_none size]
  case readStrayList => exact if_pos (empty size)
  case forgetStrays => exact if_pos (empty size)
  case postReading =>
    have short : body.length < 6 := by simp only [bodySizeOf] at size; omega
    simp [handle, postReading, clock (.inl rfl), readReadings_of_short short]
  case postPressure => simp [handle, postPressure, clock (.inr rfl), readPressure_eq_none size]
  case configureDistrict => simp only [handle, configureDistrict, readConfig_eq_none size]
  case setService => simp only [handle, setService, readService_eq_none size]
  case holdDistrict => simp only [handle, holdDistrict, readHold_eq_none size]
  case releaseDistrict => simp only [handle, releaseDistrict, readOne_eq_none size]
  case readDistrict => simp only [handle, readDistrict, readOne_eq_none size]
  case readResult => simp only [handle, readResult, readOne_eq_none size]
  case readQueue => exact if_pos (empty size)
  case setBaselineMode => simp only [handle, setBaselineMode, readMode_eq_none size]
  case loadRing => simp only [handle, loadRing, readLoadRing_eq_none size]
  case clearRing => simp only [handle, clearRing, readOne_eq_none size]
  case readRing => simp only [handle, readRing, readOne_eq_none size]
  case acknowledge => simp only [handle, acknowledge, readOne_eq_none size]
  case markRepaired => simp only [handle, markRepaired, readOne_eq_none size]
  case readWatch => simp only [handle, readWatch, readOne_eq_none size]
  case setStation => simp only [handle, setStation, readStation_eq_none size]
  case setEventMask => simp only [handle, setEventMask, readOne_eq_none size]
  case takeNotice => exact if_pos (empty size)
  case readEvents => exact if_pos (empty size)
  case readStatus => exact if_pos (empty size)
  case clearCounters => exact if_pos (empty size)

/-- The kinds whose first body byte names a district. -/
def namesDistrict (k : Kind) : Prop :=
  k ∈ [Kind.releaseDistrict, .readDistrict, .readResult, .clearRing, .readRing, .acknowledge, .markRepaired, .readWatch, .setService,
    .holdDistrict, .setBaselineMode, .configureDistrict, .postPressure, .loadRing]

/-- The rule of each kind that names a district refuses one above 31. -/
theorem handle_of_no_district (k : Kind) (s : State) (p : Position) {body : List Byte} (size : body.length = bodySizeOf k body)
    (above : 32 ≤ (body.getD 0 0).toNat) (names : namesDistrict k)
    (clock : k = .postReading ∨ k = .postPressure → s.nck.clockSet = true) : handle k s p body = refuse s .range := by
  have one : ∀ {b : Byte}, body = [b] → districtOf b = none := by rintro b rfl; exact districtOf_eq_none above
  have none_ := districtOf_eq_none above
  cases k <;> simp only [namesDistrict, List.mem_cons, List.not_mem_nil, reduceCtorEq, or_false, or_self, or_true] at names
  case releaseDistrict =>
    obtain ⟨b, rfl⟩ := List.length_eq_one_iff.1 size
    simp only [handle, releaseDistrict, readOne, one rfl]
  case readDistrict =>
    obtain ⟨b, rfl⟩ := List.length_eq_one_iff.1 size
    simp only [handle, readDistrict, readOne, one rfl]
  case readResult =>
    obtain ⟨b, rfl⟩ := List.length_eq_one_iff.1 size
    simp only [handle, readResult, readOne, one rfl]
  case clearRing =>
    obtain ⟨b, rfl⟩ := List.length_eq_one_iff.1 size
    simp only [handle, clearRing, readOne, one rfl]
  case readRing =>
    obtain ⟨b, rfl⟩ := List.length_eq_one_iff.1 size
    simp only [handle, readRing, readOne, one rfl]
  case acknowledge =>
    obtain ⟨b, rfl⟩ := List.length_eq_one_iff.1 size
    simp only [handle, acknowledge, readOne, one rfl]
  case markRepaired =>
    obtain ⟨b, rfl⟩ := List.length_eq_one_iff.1 size
    simp only [handle, markRepaired, readOne, one rfl]
  case readWatch =>
    obtain ⟨b, rfl⟩ := List.length_eq_one_iff.1 size
    simp only [handle, readWatch, readOne, one rfl]
  case setService =>
    match body, size with
    | [b, x], _ => simp only [handle, setService, readService, districtOf_eq_none (b := b) above]
  case holdDistrict =>
    match body, size with
    | [b, _, _], _ => simp only [handle, holdDistrict, readHold, districtOf_eq_none (b := b) above]
  case setBaselineMode =>
    match body, size with
    | [b, _, _, _, _, _], _ => simp only [handle, setBaselineMode, readMode, districtOf_eq_none (b := b) above]
  case configureDistrict =>
    match body, size with
    | [b, _, _, _, _, _, _, _, _, _, _, _, _, _, _, _], _ =>
      simp only [handle, configureDistrict, readConfig, districtOf_eq_none (b := b) above]
  case postPressure =>
    match body, size with
    | [b, _, _, _, _, _], _ => simp [handle, postPressure, clock (.inr rfl), readPressure, districtOf_eq_none (b := b) above]
  case loadRing =>
    obtain ⟨f, read, named⟩ := readLoadRing_of_size size
    simp only [handle, loadRing, read, named, none_]

/-- Settles O34: every kind's rule judges the size of its body, and then the district that the body names. -/
theorem requestsOutOfFormAreRefused : Obligations.RequestsOutOfFormAreRefused := by
  intro s p r i k body asks right kind with_ fits clock
  have judged := asks.exec_request kind with_ fits ((mayRequest_iff k r).2 right)
  refine ⟨fun size => ?_, fun size above names => ?_⟩
  · rw [judged, handle_of_size_ne k s p size clock, answeredWith_refuse]
  · rw [judged, handle_of_no_district k s p size above names clock, answeredWith_refuse]

end Sys2Proof.Machine
end

section
/-!
PROOF. SET WINDOW (R15), SET TIME to the same or an earlier time (R11, R13, R14), CLOSE NIGHT (R16) and the first SET TIME (R11).
-/

namespace Sys2Proof.Machine

theorem State.nightInProgress_iff (s : State) :
    s.nightInProgress = true ↔ s.nck.phase = .collecting ∨ s.nck.phase = .settling ∨ s.nck.phase = .closing := by
  unfold State.nightInProgress
  cases s.nck.phase <;> simp

/-- What holds of some record of the District Table. -/
theorem State.any_districts (s : State) (f : DistrictRecord → Bool) :
    s.districts.1.any f = true ↔ ∃ d : District, f (s.district d) = true := by
  simp only [List.any_eq_true, Table.mem_iff]
  exact ⟨fun ⟨_, ⟨d, h⟩, holds⟩ => ⟨d, (congrArg f h).trans holds⟩, fun ⟨d, holds⟩ => ⟨_, ⟨d, rfl⟩, holds⟩⟩

/-! ## SET WINDOW -/

/-- Settles O38: the checks of R15 in their order. -/
theorem setWindowReplacesTheSettings : Obligations.SetWindowReplacesTheSettings := by
  intro s p a b c asks
  rw [asks.exec_request (i := .setWindow [a, b, c]) rfl rfl (by simp) rfl]
  simp only [handle, setWindow, readSetWindow, State.nightInProgress_iff, State.any_districts, decide_eq_true_eq]
  split_ifs <;> rfl

/-! ## SET TIME -/

theorem word16_le (a b : Byte) : word16 a b ≤ 65535 := by
  have := a.isLt; have := b.isLt
  unfold word16; omega

/-- A backward set is accepted after the night mark in DAYTIME, and within the current interval in a night (R13, R14). -/
theorem State.backwardAllowed_iff (s : State) (t : ClockTime) :
    s.backwardAllowed t = true ↔
      (s.nck.phase = .daytime ∧ s.nck.nightMark.all (fun x => decide (ClockTime.Before x t)) = true) ∨
      (s.nck.phase ≠ .daytime ∧ t.day = s.nck.clock.day ∧ t.minute / 15 = s.nck.clock.minute / 15) := by
  unfold State.backwardAllowed
  cases s.nck.phase
  case daytime => cases s.nck.nightMark <;> simp
  all_goals simp

/-- Two times of one interval of one day lie on the same side of every interval's end. -/
theorem intervalEnded_of_same_interval (s : State) (t : ClockTime) (day i : Nat) (sameDay : t.day = s.nck.clock.day) (sameInterval : t.minute / 15 = s.nck.clock.minute / 15) :
    (s.clockAt t).IntervalEnded day i ↔ s.IntervalEnded day i := by
  simp only [State.IntervalEnded, ClockTime.NotAfter, ClockTime.plus, State.clockAt]
  omega

/-- SET TIME on a set clock, to a time that is not later. -/
theorem setTime_not_later (s : State) (p : Position) (d1 d0 m1 m0 : Byte) (set : s.nck.clockSet = true)
    (notLater : ¬ ClockTime.Before s.nck.clock ⟨word16 d1 d0, word16 m1 m0⟩) :
    setTime s p [d1, d0, m1, m0] =
      if 1439 < word16 m1 m0 then refuse s .range
      else if ⟨word16 d1 d0, word16 m1 m0⟩ = s.nck.clock ∨ s.backwardAllowed ⟨word16 d1 d0, word16 m1 m0⟩ = true then
        accept (s.placeClock ⟨word16 d1 d0, word16 m1 m0⟩) []
      else refuse s .state := by
  have day : ¬ 65535 < word16 d1 d0 := Nat.not_lt.2 (word16_le d1 d0)
  simp only [setTime, readSetTime, day, false_or, set, Bool.not_true, Bool.false_eq_true, if_false, if_neg notLater]
  split_ifs <;> simp_all

/-- Settles O36: the answers of SET TIME to a time that is not later (R13, R14), and R3 within one interval. -/
theorem setTimeBackOrSame : Obligations.SetTimeBackOrSame := by
  intro s p d1 d0 m1 m0 day i asks set _ t notLater
  refine ⟨?_, fun _ _ sameDay sameInterval _ =>
    intervalEnded_of_same_interval s t day i sameDay sameInterval⟩
  rw [asks.exec_request (i := .setTime [d1, d0, m1, m0]) rfl rfl (by simp) rfl]
  have judged : handle .setTime s p [d1, d0, m1, m0] = _ := setTime_not_later s p d1 d0 m1 m0 set notLater
  rw [judged, answeredWith_ite, answeredWith_ite, answeredWith_refuse, answeredWith_refuse, answeredWith_accept]
  simp only [State.backwardAllowed_iff]
  rfl

/-! ## CLOSE NIGHT -/

theorem State.clockAt_eq_apart (s : State) (c : ClockTime) : s.clockAt c = s.apart s.link s.pending c s.nck.divider := rfl

/-- The grace expiry is the same wherever the clock stands. -/
theorem State.closeByGrace_clockAt (s : State) (c : ClockTime) : (s.clockAt c).closeByGrace.clockAt s.nck.clock = s.closeByGrace := by
  have same : s = (s.clockAt c).clockAt s.nck.clock := rfl
  have link := State.closeByGrace_apart (s.clockAt c) s.link s.pending s.nck.clock s.nck.divider
  calc (s.clockAt c).closeByGrace.clockAt s.nck.clock
    _ = (s.clockAt c).closeByGrace.apart (s.clockAt c).closeByGrace.link (s.clockAt c).closeByGrace.pending s.nck.clock
          (s.clockAt c).closeByGrace.nck.divider := rfl
    _ = (s.clockAt c).closeByGrace.apart s.link s.pending s.nck.clock s.nck.divider := by
        rw [State.closeByGrace_effect (s.clockAt c)]; rfl
    _ = ((s.clockAt c).apart s.link s.pending s.nck.clock s.nck.divider).closeByGrace := link.symm
    _ = s.closeByGrace := rfl

/-- A GRACE_EXPIRY outside SETTLING leaves no trace (R5). -/
theorem exec_graceExpiry_not_settling (s : State) (other : s.nck.phase ≠ .settling) : exec .graceExpiry s = .next s := by
  have left : s.reachGraceExpiry = s := if_neg other
  rw [exec, execGraceExpiry, taken]
  simp only [left, ite_self]

theorem closeByGrace_phase (s : State) : s.closeByGrace.nck.phase = .closing ∨ s.closeByGrace.nck.phase = .daytime := by
  rw [State.closeByGrace_effect]
  dsimp only
  split
  · exact .inl rfl
  · exact .inr rfl

/-- Settles O39: outside SETTLING the request is refused (R16); in SETTLING it is the grace expiry, which a second one does not repeat. -/
theorem closeNightIsTheGraceExpiryAtOnce : Obligations.CloseNightIsTheGraceExpiryAtOnce := by
  intro s p r n asks right
  have ⟨run, _⟩ := asks
  have allowed : mayRequest .closeNight r = true := by simpa [mayRequest] using right
  have judged := asks.exec_request (i := .closeNight []) rfl rfl (by simp) allowed
  refine ⟨fun other => ?_, fun settling night => ?_⟩
  · rw [judged, show handle .closeNight s p [] = refuse s .state from if_neg other, answeredWith_refuse]
  · have placed : exec .graceExpiry (s.clockAt (s.graceExpiryOf n)) = .next (s.clockAt (s.graceExpiryOf n)).closeByGrace := by
      rw [exec_graceExpiry_at (s.clockAt (s.graceExpiryOf n)) n run night rfl]
      exact congrArg _ (if_pos settling)
    have closed : exec (.closeNight []) s = .next (s.closeByGrace.answered .closeNight [] .ok []) := by
      rw [judged, show handle .closeNight s p [] = accept s.closeByGrace [] from if_pos settling, answeredWith_accept]
    have phase := closeByGrace_phase s
    have mark : s.closeByGrace.nck.nightMark = s.nck.nightMark := by rw [State.closeByGrace_effect]
    refine ⟨_, _, placed, rfl, ?_⟩
    rw [State.closeByGrace_clockAt s]
    generalize s.closeByGrace = u at closed phase mark ⊢
    refine ⟨closed, phase, mark, exec_graceExpiry_not_settling _ ?_⟩
    show u.nck.phase ≠ .settling
    rcases phase with h | h <;> simp [h]

/-! ## Operations that do not read the Night Clock -/

/-- The part with another Night Clock. -/
def State.clocked (s : State) (n : NightClock) : State := { s with nck := n }

theorem foldl_clocked {α : Type} {f : State → α → State} {n : NightClock}
    (each : ∀ s a, f (s.clocked n) a = (f s a).clocked n) (as : List α) (s : State) :
    as.foldl f (s.clocked n) = (as.foldl f s).clocked n := by
  induction as generalizing s with
  | nil => rfl
  | cons a as ih => rw [List.foldl_cons, each, ih, List.foldl_cons]

theorem ite_clocked {n : NightClock} {c c' : Prop} [Decidable c] [Decidable c'] {a b a' b' : State} (same : c' ↔ c)
    (holds : a' = a.clocked n) (fails : b' = b.clocked n) :
    (if c' then a' else b') = (if c then a else b).clocked n := by
  by_cases h : c
  · rw [if_pos h, if_pos (same.2 h), holds]
  · rw [if_neg h, if_neg (same.not.2 h), fails]

section Clocked
variable (s : State) (n : NightClock)

theorem State.expireHold_clocked (d : District) : (s.clocked n).expireHold d = (s.expireHold d).clocked n := by
  have same : (s.clocked n).district d = s.district d := rfl
  unfold State.expireHold
  rw [same]
  cases (s.district d).hold with
  | none => rfl
  | some h =>
    have raised : ((s.clocked n).removeHold d).raiseAt .holdEnded h.holder = ((s.removeHold d).raiseAt .holdEnded h.holder).clocked n :=
      ite_clocked Iff.rfl rfl rfl
    exact (congrArg State.prompt raised).trans (ite_clocked Iff.rfl rfl rfl)

theorem State.expireIfReached_clocked (t : ClockTime) (d : District) :
    State.expireIfReached t (s.clocked n) d = (State.expireIfReached t s d).clocked n := by
  have same : (s.clocked n).district d = s.district d := rfl
  unfold State.expireIfReached
  rw [same]
  cases (s.district d).hold with
  | none => rfl
  | some h => exact ite_clocked Iff.rfl (s.expireHold_clocked n d) rfl

theorem State.alertChanged_clocked (d : District) : (s.clocked n).alertChanged d = (s.alertChanged d).clocked n :=
  ite_clocked Iff.rfl rfl rfl

theorem State.applyResult_clocked (d : District) (st : ResultStatus) (v : Verdict) :
    (s.clocked n).applyResult d st v = (s.applyResult d st v).clocked n :=
  ite_clocked Iff.rfl (State.alertChanged_clocked (s.modWatch d _) n d) rfl

theorem State.publishSkipped_clocked (d : District) (m : Nat) (why : Reason) :
    (s.clocked n).publishSkipped d m why = (s.publishSkipped d m why).clocked n :=
  State.applyResult_clocked ((s.setNightState d .skipped).publish d _) n d .skipped .none

theorem State.assignNight_clocked (m : Nat) (d : District) : (s.clocked n).assignNight m d = (s.assignNight m d).clocked n :=
  ite_clocked Iff.rfl (ite_clocked Iff.rfl rfl (s.publishSkipped_clocked n d m .noMeters)) rfl

/-- Opening a night writes the Night Clock last, from its window settings alone. -/
theorem State.openNight_clocked (m : Nat) : (s.clocked n).openNight m =
    (s.openNight m).clocked { n with phase := .collecting, nightDay := some m, nightMark := some ((s.clocked n).graceExpiryOf m) } := by
  have assigned : allDistricts.foldl (State.assignNight m) (s.clocked n).purge =
      (allDistricts.foldl (State.assignNight m) s.purge).clocked n :=
    foldl_clocked (fun s d => s.assignNight_clocked n m d) allDistricts s.purge
  unfold State.openNight
  rw [assigned]
  generalize allDistricts.foldl (State.assignNight m) s.purge = u
  rfl

end Clocked

/-! ## The first SET TIME -/

theorem exec_holdExpiry {s : State} (run : s.running = true) (d : District) :
    exec (.holdExpiry d) s = .next (State.expireIfReached s.nck.clock s d) :=
  congrArg Host.Outcome.next (if_pos run)

/-- Hold expiries taken one after another with RSTN high and the clock standing. -/
theorem State.after_holdExpiries (ds : List District) (s : State) (run : s.running = true) :
    s.after (ds.map .holdExpiry) = ds.foldl (State.expireIfReached s.nck.clock) s := by
  induction ds generalizing s with
  | nil => rfl
  | cons d ds ih =>
    have kept : (State.expireIfReached s.nck.clock s d).running = true ∧ (State.expireIfReached s.nck.clock s d).nck = s.nck := by
      unfold State.expireIfReached
      split
      · split
        · rw [State.expireHold_frame]; exact ⟨run, rfl⟩
        · exact ⟨run, rfl⟩
      · exact ⟨run, rfl⟩
    rw [List.map_cons, List.foldl_cons, State.after, exec_holdExpiry run]
    dsimp only
    rw [ih _ kept.1, kept.2]

theorem State.expireEach_nck (t : ClockTime) (ds : List District) (s : State) :
    (ds.foldl (State.expireIfReached t) s).nck = s.nck ∧ (ds.foldl (State.expireIfReached t) s).running = s.running := by
  refine foldl_keeps (P := fun u => u.nck = s.nck ∧ u.running = s.running) _ (fun u d kept => ?_) ds s ⟨rfl, rfl⟩
  unfold State.expireIfReached
  split
  · split
    · rw [State.expireHold_frame]; exact kept
    · exact kept
  · exact kept

/-- WINDOW_START in DAYTIME, the clock standing at the eligible window start of its day, opens that night. -/
theorem exec_windowStart_daytime {s : State} (run : s.running = true) (phase : s.nck.phase = .daytime)
    (here : s.nck.clock = s.windowStartOf s.nck.clock.day) (fit : s.eligible s.nck.clock.day = true) :
    exec .windowStart s = .next (s.openNight s.nck.clock.day) := by
  have opened : s.reachWindowStart s.nck.clock.day = s.openNight s.nck.clock.day := by rw [State.reachWindowStart, phase]
  calc exec .windowStart s
    _ = .next (if s.running then (if s.nck.clock = s.windowStartOf s.nck.clock.day ∧ s.eligible s.nck.clock.day = true then
          s.reachWindowStart s.nck.clock.day else s) else s) := rfl
    _ = .next (s.openNight s.nck.clock.day) := by rw [if_pos run, if_pos ⟨here, fit⟩, opened]

/-- The clock placed for the first time, in DAYTIME, with the holds it reaches expired. -/
def State.firstPlaced (s : State) (t : ClockTime) : State :=
  allDistricts.foldl (State.expireIfReached t)
    { s with nck.clock := t, nck.divider := 0, nck.clockSet := true, nck.phase := .daytime }

theorem State.firstPlaced_nck (s : State) (t : ClockTime) :
    (s.firstPlaced t).nck = { s.nck with clock := t, divider := 0, clockSet := true, phase := .daytime } :=
  (State.expireEach_nck t allDistricts _).1

/-- A first set: DAYTIME with the reached holds expired, and then the night that the time lies in. -/
theorem State.firstSet_eq (s : State) (t : ClockTime) :
    s.firstSet t =
      if ClockTime.NotAfter (s.windowStartOf t.day) t ∧ ClockTime.Before t (s.windowEndOf t.day) ∧ s.eligible t.day = true then
        ((s.firstPlaced t).clockAt (s.windowStartOf t.day)).openNight t.day |>.clockAt t
      else s.firstPlaced t := by
  have set : allDistricts.foldl (State.expireIfReached t) { s.placeClock t with nck.clockSet := true } =
      (s.firstPlaced t).clocked { s.nck with clock := t, divider := 0, clockSet := true } :=
    foldl_clocked (fun u d => u.expireIfReached_clocked _ t d) allDistricts
      { s with nck.clock := t, nck.divider := 0, nck.clockSet := true, nck.phase := .daytime }
  have nck := s.firstPlaced_nck t
  unfold State.firstSet
  rw [set]
  generalize s.firstPlaced t = u at nck ⊢
  have placed : u = u.clocked { s.nck with clock := t, divider := 0, clockSet := true, phase := .daytime } := by rw [← nck]; rfl
  have start : (u.clockAt (s.windowStartOf t.day)) =
      u.clocked { s.nck with clock := s.windowStartOf t.day, divider := 0, clockSet := true, phase := .daytime } := by
    rw [State.clockAt, nck]; rfl
  refine if_congr Iff.rfl ?_ placed.symm
  rw [start, State.openNight_clocked, State.openNight_clocked]
  generalize u.openNight t.day = v
  rfl

/-- The first placing, taken as the hold expiries of every district with the clock at its new reading. -/
theorem State.after_firstPlaced (s : State) (t : ClockTime) (run : s.running = true) :
    State.after { s with nck.clock := t, nck.divider := 0, nck.clockSet := true, nck.phase := .daytime } (allDistricts.map .holdExpiry) =
      s.firstPlaced t :=
  State.after_holdExpiries allDistricts _ run

theorem State.after_windowStart (s : State) (t : ClockTime) (run : s.running = true) (fit : s.eligible t.day = true) :
    ((s.firstPlaced t).clockAt (s.windowStartOf t.day)).after [.windowStart] =
      ((s.firstPlaced t).clockAt (s.windowStartOf t.day)).openNight t.day := by
  have nck := s.firstPlaced_nck t
  have running : (s.firstPlaced t).running = true := (State.expireEach_nck t allDistricts _).2.trans run
  generalize s.firstPlaced t = u at nck running ⊢
  have start : u.windowStartOf t.day = s.windowStartOf t.day := by rw [State.windowStartOf, nck]; rfl
  have eligible : u.eligible t.day = true := by
    rw [← fit]; simp only [State.eligible, State.graceExpiryOf, State.windowEndOf, State.windowStartOf, nck]; rfl
  have opened := exec_windowStart_daytime (s := u.clockAt (s.windowStartOf t.day)) running (congrArg NightClock.phase nck)
    start.symm eligible
  rw [State.after, opened]; rfl

/-- What a first SET TIME in range makes of the part. -/
theorem setTime_first (s : State) (p : Position) (d1 d0 m1 m0 : Byte) (unset : s.nck.clockSet = false) :
    setTime s p [d1, d0, m1, m0] =
      if 1439 < word16 m1 m0 then refuse s .range else accept (s.firstSet ⟨word16 d1 d0, word16 m1 m0⟩) [] := by
  have day : ¬ 65535 < word16 d1 d0 := Nat.not_lt.2 (word16_le d1 d0)
  simp only [setTime, readSetTime, unset, Bool.not_false, if_true, day, false_or]

/-- Settles O35: the holds reached expire whatever the phase is called meanwhile, and a night that opens is opened as at its window start. -/
theorem firstSetTimePlacesTheClock : Obligations.FirstSetTimePlacesTheClock := by
  intro s p d1 d0 m1 m0 asks unset
  have ⟨run, _⟩ := asks
  have judged : handle .setTime s p [d1, d0, m1, m0] = _ := setTime_first s p d1 d0 m1 m0 unset
  rw [asks.exec_request (i := .setTime [d1, d0, m1, m0]) rfl rfl (by simp) rfl, judged, answeredWith_ite, answeredWith_refuse,
    answeredWith_accept, State.firstSet_eq]
  refine congrArg Host.Outcome.next (if_congr Iff.rfl rfl (Eq.symm ?_))
  have expired := State.after_firstPlaced s ⟨word16 d1 d0, word16 m1 m0⟩ run
  by_cases lands : ClockTime.NotAfter (s.windowStartOf (word16 d1 d0)) ⟨word16 d1 d0, word16 m1 m0⟩ ∧
    ClockTime.Before ⟨word16 d1 d0, word16 m1 m0⟩ (s.windowEndOf (word16 d1 d0)) ∧ s.eligible (word16 d1 d0) = true
  · have opened := State.after_windowStart s ⟨word16 d1 d0, word16 m1 m0⟩ run lands.2.2
    rw [if_pos lands, ← opened, ← expired]
    exact if_pos lands
  · rw [if_neg lands, ← expired]
    exact if_neg lands

end Sys2Proof.Machine
end

section
/-!
PROOF. BIND METER, UNBIND METER (R23, R24), ENABLE METER and DISABLE METER (R25 to R28).
-/

namespace Sys2Proof.Machine

/-! ## Districts named by links (R22) -/

theorem mem_linkDistricts (l : Option MeterLink) (d : District) : d ∈ linkDistricts l ↔ l.map (·.district) = some d := by
  cases l <;> simp [linkDistricts, eq_comm]

theorem Slot.mem_districts (sl : Slot) (d : District) : d ∈ sl.districts ↔ sl.Names d := by
  rw [Slot.districts, List.mem_append, mem_linkDistricts, mem_linkDistricts]

theorem State.any_busy (s : State) (ds : List District) : ds.any s.busy = true ↔ ∃ d, d ∈ ds ∧ s.IsEvaluating d := by
  simp [State.busy]

theorem State.any_lockedFor (s : State) (p : Position) (ds : List District) :
    ds.any (s.lockedFor p) = true ↔ ∃ d, d ∈ ds ∧ s.HeldByOther p d := by
  simp only [List.any_eq_true, State.lockedFor_iff]

/-! ## Link bytes (R194, R198) -/

/-- The role bits of a link byte name no role. -/
def namesNoRole (l : Byte) : Prop := l.getLsbD 7 = true ∧ l.getLsbD 6 = true ∧ l.getLsbD 5 = true

/-- The link that a link byte asks for. -/
def linkOfByte (l : Byte) : Option MeterLink :=
  if l.getLsbD 7 then
    some (MeterLink.mk (Fin.ofNat 32 l.toNat) (if l.getLsbD 6 then .user else if l.getLsbD 5 then .outlet else .inlet))
  else none

/-- The two role bits as the role code. -/
theorem roleCode_eq (l : Byte) : l.toNat / 32 % 4 = 2 * (l.getLsbD 6).toNat + (l.getLsbD 5).toNat := by
  simp only [← BitVec.testBit_toNat, Nat.testBit_eq_decide_div_mod_eq]
  rcases Nat.mod_two_eq_zero_or_one (l.toNat / 2 ^ 6) with h6 | h6 <;>
    rcases Nat.mod_two_eq_zero_or_one (l.toNat / 2 ^ 5) with h5 | h5 <;> simp only [h5, h6, decide_true, Bool.toNat] <;>
    simp <;> omega

/-- A link byte resolves to its link unless its role bits name none. -/
theorem resolveLink_of_noRole {l : Byte} (noRole : namesNoRole l) : resolveLink (linkField l) = none := by
  obtain ⟨h7, h6, h5⟩ := noRole
  rw [linkField, show l.msb = true from h7, if_pos rfl, roleCode_eq, h6, h5]
  rfl

theorem resolveLink_of_role {l : Byte} (role : ¬ namesNoRole l) : resolveLink (linkField l) = some (linkOfByte l) := by
  unfold namesNoRole at role
  have top : l.msb = l.getLsbD 7 := rfl
  by_cases h7 : l.getLsbD 7 = true
  · simp only [linkField, linkOfByte, top, h7, if_true, roleCode_eq, resolveLink]
    cases h6 : l.getLsbD 6 <;> cases h5 : l.getLsbD 5 <;> simp_all [LinkRole.ofCode, Fin.ofNat]
  · rw [linkField, linkOfByte, top, if_neg h7, if_neg h7]; rfl

/-! ## BIND METER -/

/-- The RANGE check on identifier and links (R23). -/
theorem bindRange_iff (identifier : Nat) (primary secondary : Option MeterLink) :
    bindRange identifier primary secondary = true ↔
      (secondary ≠ none ∧ primary.map (·.district) = secondary.map (·.district)) ∨ (identifier ≠ 0 ∧ primary = none) ∨
      (identifier = 0 ∧ (primary ≠ none ∨ secondary ≠ none)) ∨ (secondary ≠ none ∧ primary = none) := by
  unfold bindRange
  cases primary <;> cases secondary <;> simp

/-- Settles O41: the checks of R23 in their order, each on the districts that the slot's links and the links asked for name. -/
theorem bindMeterWritesTheSlot : Obligations.BindMeterWritesTheSlot := by
  intro s p r b i3 i2 i1 i0 l1 l2 x i asks right slot body identifier noRole link names
  refine ⟨rfl, ?_⟩
  have allowed : mayRequest .bindMeter r = true := by simpa [mayRequest] using right
  have index : slotOf b = i := Fin.ext slot
  have named : ∀ d, d ∈ (s.slot i).districts ++ linkDistricts (linkOfByte l1) ++ linkDistricts (linkOfByte l2) ↔ names d := by
    intro d
    rw [List.mem_append, List.mem_append, Slot.mem_districts, mem_linkDistricts, mem_linkDistricts, or_assoc]
    rfl
  rw [asks.exec_request (i := .bindMeter body) rfl rfl (by simp [body]) allowed]
  congr 1
  by_cases none1 : namesNoRole l1
  · rw [if_pos (.inl none1)]
    simp only [handle, bindMeter, body, readBind, resolveLink_of_noRole none1, answeredWith_refuse]
  by_cases none2 : namesNoRole l2
  · rw [if_pos (.inr (.inl none2))]
    simp only [handle, bindMeter, body, readBind, resolveLink_of_role none1, resolveLink_of_noRole none2, answeredWith_refuse]
  simp only [handle, bindMeter, body, readBind, resolveLink_of_role none1, resolveLink_of_role none2, bindRange_iff, State.any_busy,
    State.any_lockedFor, answeredWith_ite, answeredWith_refuse, answeredWith_accept, index, named, word32_eq]
  refine if_congr ?_ rfl (if_congr Iff.rfl rfl (if_congr Iff.rfl rfl (if_congr Iff.rfl rfl ?_)))
  · exact ⟨fun h => .inr (.inr h), fun h => (h.resolve_left none1).resolve_left none2⟩
  · rw [boundSlot, Bool.and_comm]; rfl

/-! ## ENABLE METER and DISABLE METER -/

theorem State.any_slots (s : State) (f : Slot → Bool) : s.slots.1.any f = true ↔ ∃ j : SlotIndex, f (s.slot j) = true := by
  simp only [List.any_eq_true, Table.mem_iff]
  exact ⟨fun ⟨_, ⟨j, h⟩, holds⟩ => ⟨j, (congrArg f h).trans holds⟩, fun ⟨j, holds⟩ => ⟨_, ⟨j, rfl⟩, holds⟩⟩

section
variable {s : State} {p : Position} {r : StationRole} (asks : s.Asks p r) (right : r = .telemetry ∨ r = .service)
  {b : Byte} {i : SlotIndex} (slot : b.toNat = i.1)
include asks right slot

theorem exec_enableMeter :
    exec (.enableMeter [b]) s = .next
      (if (s.slot i).identifier = 0 then s.refusal .enableMeter [b] .state
       else if (s.slot i).enabled = true then s.answered .enableMeter [b] .ok []
       else if ∃ j : SlotIndex, (s.slot j).enabled = true ∧ (s.slot j).identifier = (s.slot i).identifier then
         s.refusal .enableMeter [b] .duplicateId
       else if ∃ d : District, (s.slot i).Names d ∧ s.IsEvaluating d then s.refusal .enableMeter [b] .busy
       else if ∃ d : District, (s.slot i).Names d ∧ s.HeldByOther p d then s.refusal .enableMeter [b] .locked
       else State.answered
         (State.configChanged
           { s.modSlot i (fun x => { x with enabled := true }) with
             strays := s.strays.filter (fun x => decide (x.identifier ≠ (s.slot i).identifier)) } p) .enableMeter [b] .ok []) := by
  have allowed : mayRequest .enableMeter r = true := by simpa [mayRequest] using right
  have index : slotOf b = i := Fin.ext slot
  rw [asks.exec_request (i := .enableMeter [b]) rfl rfl (by simp) allowed]
  simp only [handle, enableMeter, readOne, index, State.any_slots, Bool.and_eq_true, decide_eq_true_eq, State.any_busy,
    State.any_lockedFor, Slot.mem_districts, answeredWith_ite, answeredWith_refuse, answeredWith_accept]

theorem exec_disableMeter :
    exec (.disableMeter [b]) s = .next
      (if (s.slot i).enabled = false then s.answered .disableMeter [b] .ok []
       else if ∃ d : District, (s.slot i).Names d ∧ s.IsEvaluating d then s.refusal .disableMeter [b] .busy
       else if ∃ d : District, (s.slot i).Names d ∧ s.HeldByOther p d then s.refusal .disableMeter [b] .locked
       else State.answered (((s.modSlot i (fun x => { x with enabled := false })).checkSlotDistricts (s.slot i)).configChanged p)
         .disableMeter [b] .ok []) := by
  have allowed : mayRequest .disableMeter r = true := by simpa [mayRequest] using right
  have index : slotOf b = i := Fin.ext slot
  rw [asks.exec_request (i := .disableMeter [b]) rfl rfl (by simp) allowed]
  simp only [handle, disableMeter, readOne, index, Bool.not_eq_true', State.any_busy,
    State.any_lockedFor, Slot.mem_districts, answeredWith_ite, answeredWith_refuse, answeredWith_accept]

end

/-- Settles O42: ENABLE METER by its checks; DISABLE METER with the districts that its completion checks queue. -/
theorem metersGoIntoAndOutOfUse : Obligations.MetersGoIntoAndOutOfUse := by
  intro s p r b i asks right slot evaluating held off joins
  refine ⟨exec_enableMeter asks right slot, ?_⟩
  have judged := exec_disableMeter asks right slot
  split
  next disabled => rw [judged, if_pos disabled]
  next enabled =>
    rw [if_neg enabled] at judged
    split
    next busy => rw [judged, if_pos busy]
    next idle =>
      rw [if_neg idle] at judged
      split
      next locked => rw [judged, if_pos locked]
      next free =>
        rw [if_neg free] at judged
        have checked : off.checkSlotDistricts (s.slot i) = off.enqueueEach .complete joins := State.checkSlotDistricts_eq off (s.slot i)
        rw [show (s.modSlot i (fun x => { x with enabled := false })).checkSlotDistricts (s.slot i) = _ from checked] at judged
        have districts : ((off.enqueueEach .complete joins).configChanged p).districts = (off.enqueueEach .complete joins).districts := by
          rw [State.configChanged_frame]
        refine ⟨_, judged, congrArg (fun u : State => (u.configChanged p).answered .disableMeter [b] .ok []) ?_, fun d => ?_⟩
        · refine (State.enqueueEach_eq .complete joins off).trans ?_
          rw [← districts]; rfl
        · exact (congrArg (·.get d) districts).trans (State.district_enqueueEach .complete joins off d)

end Sys2Proof.Machine
end

section
/-!
PROOF. Bodies read back as they were packed (R185, R191, R194, R195, R198).
-/

namespace Sys2Proof.Machine

/-! ## Numbers in bytes (R191) -/

theorem byte_toNat (n : Nat) : (byte n).toNat = n % 256 := BitVec.toNat_ofNat _ _

theorem byte_toNat_of_le {n : Nat} (fits : n ≤ 255) : (byte n).toNat = n := by rw [byte_toNat]; omega

theorem word16_be16 {n : Nat} (fits : n ≤ 65535) : word16 (byte (n / 256)) (byte n) = n := by
  rw [word16, byte_toNat, byte_toNat]; omega

theorem word24_be24 {n : Nat} (fits : n ≤ 16777215) : word24 (byte (n / 65536)) (byte (n / 256)) (byte n) = n := by
  rw [word24_eq, byte_toNat, byte_toNat, byte_toNat]; omega

theorem word32_be32 {n : Nat} (fits : n ≤ 4294967295) :
    word32 (byte (n / 16777216)) (byte (n / 65536)) (byte (n / 256)) (byte n) = n := by
  rw [word32_eq, byte_toNat, byte_toNat, byte_toNat, byte_toNat]; omega

theorem signed32_beSigned32 {i : Int} (low : -2147483648 ≤ i) (high : i ≤ 2147483647) :
    let n := (BitVec.ofInt 32 i).toNat
    signed32 (byte (n / 16777216)) (byte (n / 65536)) (byte (n / 256)) (byte n) = i := by
  intro n
  have fits : n ≤ 4294967295 := by have := (BitVec.ofInt 32 i).isLt; omega
  rw [signed32, word32_be32 fits, BitVec.ofNat_toNat, BitVec.setWidth_eq, BitVec.toInt_ofInt]
  exact Int.bmod_eq_of_le (by omega) (by omega)

/-! ## Links, ring entries, clock times and parameters (R194, R198) -/

theorem resolveLink_linkByte (l : Option MeterLink) : resolveLink (linkField (linkByte l)) = some l := by
  cases l with
  | none => rfl
  | some l =>
    obtain ⟨d, r⟩ := l
    cases r <;> revert d <;> decide

theorem readRingEntries_bytes {ring : List RingEntry}
    (inRange : ∀ e ∈ ring, e.nightDay ≤ 65535 ∧ -2147483648 ≤ e.figure ∧ e.figure ≤ 2147483647) :
    readRingEntries (ring.flatMap RingEntry.bytes) = some ring := by
  induction ring with
  | nil => rfl
  | cons e ring ih =>
    obtain ⟨day, low, high⟩ := inRange e List.mem_cons_self
    have rest := ih fun x hx => inRange x (List.mem_cons_of_mem e hx)
    have front : (e :: ring).flatMap RingEntry.bytes = RingEntry.bytes e ++ ring.flatMap RingEntry.bytes := rfl
    rw [front]
    simp only [RingEntry.bytes, be16, beSigned32, be32, List.cons_append, List.nil_append] at rest ⊢
    rw [readRingEntries, rest, word16_be16 day, signed32_beSigned32 low high]

theorem readLoadRing_bytes (b : Byte) {ring : List RingEntry} (short : ring.length ≤ 255)
    (inRange : ∀ e ∈ ring, e.nightDay ≤ 65535 ∧ -2147483648 ≤ e.figure ∧ e.figure ≤ 2147483647) :
    readLoadRing (b :: byte ring.length :: ring.flatMap RingEntry.bytes) = some ⟨b, ring⟩ := by
  rw [readLoadRing, readRingEntries_bytes inRange]
  exact if_pos (byte_toNat_of_le short).symm

theorem readSetTime_be16 (t : ClockTime) (day : t.day ≤ 65535) (minute : t.minute ≤ 65535) :
    readSetTime (be16 t.day ++ be16 t.minute) = some t := by
  simp only [be16, List.cons_append, List.nil_append, readSetTime, word16_be16 day, word16_be16 minute]

theorem exponent_ofByte_code (n : Exponent) : Exponent.ofByte n.code = some n := by
  cases n <;> decide

theorem readConfig_bytes (b : Byte) {wlen : Nat} {ps : Params} (inRange : ParamsInRange wlen ps) :
    readConfig (b :: ps.bytes) = some ⟨b, ps.properties, ps.allowance, ps.pRef, ps.n1.code, ps.m, ps.tAbs, ps.tRel, ps.burst,
      ps.nConfirm, ps.gapLimit, ps.subLim⟩ := by
  simp only [Params.bytes, be16, List.cons_append, List.nil_append, readConfig]
  rw [word16_be16 (by omega), word16_be16 (by omega), word16_be16 (by omega), word16_be16 (by omega), byte_toNat_of_le (by omega),
    byte_toNat_of_le (by omega), byte_toNat_of_le (by omega), byte_toNat_of_le (by omega), byte_toNat_of_le (by omega),
    byte_toNat_of_le (by omega)]

/-! ## Packed readings (R185, R195) -/

/-- The reading entries that packed ones stand for, before their checks. -/
def rawEntries (base last : Nat) : List PackedEntry → List RawEntry
  | [] => []
  | e :: es =>
    let own := (e.identifier.map (·.toNat)).getD last
    ⟨own, e.day base, e.interval.1, e.volume.toNat, e.estimated⟩ :: rawEntries base own es

/-- A packed sum keeps its first entry's digit lowest. -/
theorem packedSum_lt {f : PackedEntry → Nat} {radix : Nat} (digit : ∀ e, f e < radix) (es : List PackedEntry) :
    packedSum f radix es < radix ^ es.length := by
  induction es with
  | nil => simp [packedSum]
  | cons e es ih =>
    have := digit e
    rw [packedSum, List.length_cons, pow_succ]
    nlinarith

theorem packedSum_digit {f : PackedEntry → Nat} {radix : Nat} (digit : ∀ e, f e < radix) {e : PackedEntry} {es : List PackedEntry}
    {n i : Nat} (sum : n / radix ^ i = packedSum f radix (e :: es)) :
    n / radix ^ i % radix = f e ∧ n / radix ^ (i + 1) = packedSum f radix es := by
  have pos : 0 < radix := Nat.lt_of_le_of_lt (Nat.zero_le _) (digit e)
  rw [pow_succ, ← Nat.div_div_eq_div_mul, sum, packedSum, Nat.add_mul_mod_self_left, Nat.mod_eq_of_lt (digit e),
    Nat.add_mul_div_left _ _ pos, Nat.div_eq_of_lt (digit e), Nat.zero_add]
  exact ⟨rfl, rfl⟩

theorem isSome_toNat_lt (e : PackedEntry) : e.identifier.isSome.toNat < 2 := by
  cases e.identifier <;> simp

/-- The identifier mask tells which entries carry an identifier. -/
theorem carriesIdentifier_eq {mask : Byte} {i : Nat} {e : PackedEntry} (first : i = 0 → e.identifier ≠ none)
    (digit : mask.toNat / 2 ^ i % 2 = e.identifier.isSome.toNat) : carriesIdentifier mask i = e.identifier.isSome := by
  have bit : mask.getLsbD i = e.identifier.isSome := by
    rw [← BitVec.testBit_toNat, Nat.testBit_eq_decide_div_mod_eq, digit]
    cases e.identifier <;> simp
  rw [carriesIdentifier, bit]
  by_cases h : i = 0
  · simp [h, Option.isSome_iff_ne_none.2 (first h)]
  · simp [h]

theorem derivedDay_dayCode (base : Nat) (e : PackedEntry) : derivedDay base e.dayCode.1 = e.day base := by
  unfold PackedEntry.day
  generalize e.dayCode = c
  fin_cases c <;> rfl

theorem lead_toNat (e : PackedEntry) :
    (byte ((if e.estimated then 128 else 0) + e.interval.1)).toNat = (if e.estimated then 128 else 0) + e.interval.1 := by
  have := e.interval.2
  exact byte_toNat_of_le (by split <;> omega)

theorem lead_interval (e : PackedEntry) : (byte ((if e.estimated then 128 else 0) + e.interval.1)).toNat % 128 = e.interval.1 := by
  have := e.interval.2
  rw [lead_toNat]; split <;> omega

theorem lead_msb (e : PackedEntry) : (byte ((if e.estimated then 128 else 0) + e.interval.1)).msb = e.estimated := by
  have := e.interval.2
  rw [BitVec.msb_eq_decide, lead_toNat]
  cases e.estimated <;> simp

/-- Packed entries are read in order: each with its own identifier or the nearest earlier one. -/
theorem readEntries_packed (mask : Byte) (codes base : Nat) (es : List PackedEntry) (i last : Nat)
    (first : ∀ e ∈ es.head?, i = 0 → e.identifier ≠ none)
    (ids : mask.toNat / 2 ^ i = packedSum (fun e => e.identifier.isSome.toNat) 2 es)
    (days : codes / 4 ^ i = packedSum (fun e => e.dayCode.1) 4 es) :
    readEntries mask codes base es.length i last (es.flatMap PackedEntry.bytes) = rawEntries base last es := by
  induction es generalizing i last with
  | nil => rfl
  | cons e es ih =>
    obtain ⟨idDigit, idRest⟩ := packedSum_digit isSome_toNat_lt ids
    obtain ⟨dayDigit, dayRest⟩ := packedSum_digit (fun e => e.dayCode.2) days
    have carries := carriesIdentifier_eq (first e rfl) idDigit
    have rest := fun last' => ih (i + 1) last' (fun _ _ h => absurd h (Nat.succ_ne_zero i)) idRest dayRest
    have volume : e.volume.toNat ≤ 16777215 := Nat.le_of_lt_succ e.volume.isLt
    have front : (e :: es).flatMap PackedEntry.bytes = e.bytes ++ es.flatMap PackedEntry.bytes := rfl
    rw [List.length_cons, readEntries, carries, dayDigit, derivedDay_dayCode, front, rawEntries]
    cases id : e.identifier with
    | none =>
      simp only [PackedEntry.bytes, id, Option.isSome_none, Bool.false_eq_true, if_false, be24, List.nil_append, List.cons_append,
        List.getD_cons_zero, List.getD_cons_succ, List.drop_succ_cons, List.drop_zero, lead_interval, lead_msb, word24_be24 volume, rest,
        Option.map_none, Option.getD_none]
    | some x =>
      have identifier : x.toNat ≤ 4294967295 := Nat.le_of_lt_succ x.isLt
      simp only [PackedEntry.bytes, id, Option.isSome_some, if_true, be24, be32, List.nil_append, List.cons_append,
        List.getD_cons_zero, List.getD_cons_succ, List.drop_succ_cons, List.drop_zero, lead_interval, lead_msb, word24_be24 volume,
        word32_be32 identifier, rest, Option.map_some, Option.getD_some]

/-- Entries in range pass their checks. -/
theorem mapM_checked_rawEntries (base : Nat) (es : List PackedEntry) (last : Nat)
    (named : last ≠ 0 ∨ ∀ e ∈ es.head?, e.identifier ≠ none)
    (inRange : ∀ x ∈ es, x.interval.1 ≤ 95 ∧ x.identifier ≠ some 0#32 ∧ 0 ≤ x.day base ∧ x.day base ≤ 65535) :
    (rawEntries base last es).mapM RawEntry.checked = some (unpacked base last es) := by
  induction es generalizing last with
  | nil => rfl
  | cons e es ih =>
    obtain ⟨interval, nonzero, low, high⟩ := inRange e List.mem_cons_self
    have own : (e.identifier.map (·.toNat)).getD last ≠ 0 := by
      cases id : e.identifier with
      | none => exact named.resolve_right fun h => h e rfl id
      | some x =>
        intro zero
        exact nonzero (id.trans (congrArg some (BitVec.eq_of_toNat_eq zero)))
    have rest := ih _ (.inl own) fun x hx => inRange x (List.mem_cons_of_mem e hx)
    have passes : RawEntry.checked ⟨(e.identifier.map (·.toNat)).getD last, e.day base, e.interval.1, e.volume.toNat, e.estimated⟩ =
      some ⟨(e.identifier.map (·.toNat)).getD last, (e.day base).toNat, e.interval.1, e.volume.toNat, e.estimated⟩ :=
      if_neg (by dsimp only; omega)
    rw [rawEntries, List.mapM_cons, passes, rest, unpacked]
    cases e.identifier <;> rfl

/-- The size of a packed body is the one its count and mask give. -/
theorem flatMap_bytes_length (mask : Byte) (es : List PackedEntry) (i : Nat) (first : ∀ e ∈ es.head?, i = 0 → e.identifier ≠ none)
    (ids : mask.toNat / 2 ^ i = packedSum (fun e => e.identifier.isSome.toNat) 2 es) :
    (es.flatMap PackedEntry.bytes).length =
      4 * es.length + 4 * ((List.range' i es.length).filter (carriesIdentifier mask)).length := by
  induction es generalizing i with
  | nil => rfl
  | cons e es ih =>
    obtain ⟨idDigit, idRest⟩ := packedSum_digit isSome_toNat_lt ids
    have carries := carriesIdentifier_eq (first e rfl) idDigit
    have rest := ih (i + 1) (fun _ _ h => absurd h (Nat.succ_ne_zero i)) idRest
    have size : e.bytes.length = 4 + 4 * e.identifier.isSome.toNat := by
      unfold PackedEntry.bytes
      cases e.identifier <;> rfl
    have front : (e :: es).flatMap PackedEntry.bytes = e.bytes ++ es.flatMap PackedEntry.bytes := rfl
    rw [front, List.length_append, size, rest, List.length_cons, List.range'_succ, List.filter_cons, carries]
    cases e.identifier <;> simp <;> omega

/-- A POST READING body packed from entries in range is read as the entries it was packed from. -/
theorem readReadings_packed (base : BitVec 16) (e : PackedEntry) (es : List PackedEntry) (short : es.length ≤ 7)
    (named : e.identifier ≠ none)
    (inRange : ∀ x ∈ e :: es, x.interval.1 ≤ 95 ∧ x.identifier ≠ some 0#32 ∧ 0 ≤ x.day base.toNat ∧ x.day base.toNat ≤ 65535) :
    readReadings (packReadings base.toNat (e :: es)) = .ok (unpacked base.toNat 0 (e :: es)) := by
  have count : (byte (e :: es).length).toNat = es.length + 1 := byte_toNat_of_le (by simp only [List.length_cons]; omega)
  have idSum := packedSum_lt isSome_toNat_lt (e :: es)
  have daySum := packedSum_lt (f := fun e => e.dayCode.1) (fun e => e.dayCode.2) (e :: es)
  have idBound : 2 ^ (e :: es).length ≤ 2 ^ 8 := Nat.pow_le_pow_right (by decide) (by simp only [List.length_cons]; omega)
  have dayBound : 4 ^ (e :: es).length ≤ 4 ^ 8 := Nat.pow_le_pow_right (by decide) (by simp only [List.length_cons]; omega)
  have mask : (byte (packedSum (fun e => e.identifier.isSome.toNat) 2 (e :: es))).toNat =
    packedSum (fun e => e.identifier.isSome.toNat) 2 (e :: es) := byte_toNat_of_le (by omega)
  have codes := word16_be16 (n := packedSum (fun e => e.dayCode.1) 4 (e :: es)) (by omega)
  have baseDay := word16_be16 (n := base.toNat) (Nat.le_of_lt_succ base.isLt)
  have first : ∀ x ∈ (e :: es).head?, (0 : Nat) = 0 → x.identifier ≠ none := fun x hx _ => by cases hx; exact named
  have size := flatMap_bytes_length (byte (packedSum (fun e => e.identifier.isSome.toNat) 2 (e :: es))) (e :: es) 0 first (by simpa using mask)
  have raw := readEntries_packed (byte (packedSum (fun e => e.identifier.isSome.toNat) 2 (e :: es)))
    (packedSum (fun e => e.dayCode.1) 4 (e :: es)) base.toNat (e :: es) 0 0 first (by simpa using mask) (by simp)
  have whole : (packReadings base.toNat (e :: es)).length =
      readingSize (byte (e :: es).length).toNat (byte (packedSum (fun e => e.identifier.isSome.toNat) 2 (e :: es))) := by
    rw [count, readingSize, List.range_eq_range']
    simp only [packReadings, be16, List.length_append, List.length_cons, List.length_nil] at size ⊢
    omega
  refine (if_neg (by omega)).trans ((if_neg (not_not.2 whole)).trans ?_)
  rw [codes, baseDay, count, ← List.length_cons (a := e),
    show List.append [] ((e :: es).flatMap PackedEntry.bytes) = (e :: es).flatMap PackedEntry.bytes from rfl, raw,
    mapM_checked_rawEntries base.toNat (e :: es) 0 (.inr fun x hx => first x hx rfl) inRange]

/-- Settles O32: each layout's reader undoes its writer. -/
theorem bodiesReadBack : Obligations.BodiesReadBack := by
  refine ⟨fun base e es short named inRange => readReadings_packed base e es short named inRange, fun b wlen ps inRange => ?_,
    resolveLink_linkByte, fun b ring short inRange => readLoadRing_bytes b short inRange,
    fun t day minute => readSetTime_be16 t day minute⟩
  have read := readConfig_bytes b inRange
  refine ⟨rfl, ?_, by rw [read]; rfl⟩
  rw [read, Option.bind_some, ConfigFields.params, exponent_ofByte_code]
  exact if_pos (by dsimp only; omega)

end Sys2Proof.Machine
end

section
/-!
PROOF. CONFIGURE DISTRICT (R66, R67), edit holds (R18, R73, R74) and the baseline requests (R128 to R133).
-/

namespace Sys2Proof.Machine

/-! ## BUSY and LOCKED (R75) -/

theorem State.guarded_eq_none (s : State) (p : Position) (d : District) :
    s.guarded p d = none ↔ ¬ s.IsEvaluating d ∧ ¬ s.HeldByOther p d := by
  rw [← State.lockedFor_iff]
  unfold State.guarded State.busy
  split_ifs <;> simp_all

theorem State.unlessGuarded_of_some {s : State} {p : Position} {d : District} {st : Status} (refused : s.guarded p d = some st)
    (k : Kind) (body : List Byte) (u : State) : s.unlessGuarded p d k body u = s.refusal k body st := by
  unfold State.guarded State.busy at refused
  unfold State.unlessGuarded
  simp only [State.lockedFor_iff, decide_eq_true_eq] at refused
  split_ifs at refused ⊢ <;> cases refused <;> rfl

theorem State.unlessGuarded_of_none {s : State} {p : Position} {d : District} (free : s.guarded p d = none)
    (k : Kind) (body : List Byte) (u : State) : s.unlessGuarded p d k body u = u := by
  obtain ⟨idle, unheld⟩ := (s.guarded_eq_none p d).1 free
  rw [State.unlessGuarded, if_neg idle, if_neg unheld]

/-! ## CONFIGURE DISTRICT -/

theorem exponent_ofByte_eq (n : Byte) :
    Exponent.ofByte n =
      if 3 < n.toNat then none
      else some (if n = 0 then .none else if n = 1 then .half else if n = 2 then .one else .oneHalf) := by
  have three : n = 3 ↔ n.toNat = 3 := BitVec.toNat_inj.symm
  have two : n = 2 ↔ n.toNat = 2 := BitVec.toNat_inj.symm
  have one : n = 1 ↔ n.toNat = 1 := BitVec.toNat_inj.symm
  have zero : n = 0 ↔ n.toNat = 0 := BitVec.toNat_inj.symm
  simp only [Exponent.ofByte, zero, one, two, three]
  by_cases above : 3 < n.toNat
  · rw [if_pos above]
    simp only [show n.toNat ≠ 0 by omega, show n.toNat ≠ 1 by omega, show n.toNat ≠ 2 by omega, show n.toNat ≠ 3 by omega, if_false]
  · rw [if_neg above]
    obtain h | h | h | h : n.toNat = 0 ∨ n.toNat = 1 ∨ n.toNat = 2 ∨ n.toNat = 3 := by omega
    all_goals simp [h]

/-- The parameters that the fields ask for, where the N1 byte is a code of R194 and every range of R63 is kept. -/
theorem ConfigFields.params_eq (f : ConfigFields) :
    f.params =
      if 3 < f.n1.toNat ∨ ¬ (f.allowance ≤ 1000 ∧ 1 ≤ f.pRef ∧ f.pRef ≤ 2000 ∧ 1 ≤ f.m ∧ f.m ≤ 4 ∧ 2 ≤ f.burst ∧ f.burst ≤ 16 ∧
        1 ≤ f.nConfirm ∧ f.nConfirm ≤ 7 ∧ 1 ≤ f.gapLimit ∧ f.gapLimit ≤ 7 ∧ f.subLim ≤ 100) then none
      else some ⟨f.properties, f.allowance, f.pRef,
        if f.n1 = 0 then .none else if f.n1 = 1 then .half else if f.n1 = 2 then .one else .oneHalf,
        f.m, f.tAbs, f.tRel, f.burst, f.nConfirm, f.gapLimit, f.subLim⟩ := by
  rw [ConfigFields.params, exponent_ofByte_eq]
  by_cases code : 3 < f.n1.toNat
  · rw [if_pos code, if_pos (.inl code)]
  · rw [if_neg code]
    simp only [code, false_or]
    split_ifs <;> rfl

/-- Settles O48: the parameters asked for are judged one by one, then BUSY and LOCKED. -/
theorem configureDistrictReplacesTheParameters : Obligations.ConfigureDistrictReplacesTheParameters := by
  intro s p r d b p1 p0 a1 a0 r1 r0 n m t1 t0 tr bf nc gl sb asks right body ps
  have allowed : mayRequest .configureDistrict r = true := by simpa [mayRequest] using right
  have judged := asks.exec_request (i := .configureDistrict body) rfl rfl (by simp [body]) allowed
  refine ⟨fun above => ?_, fun named => ?_⟩
  · rw [judged, handle_of_no_district .configureDistrict s p (body := body) rfl above (by simp [namesDistrict]) (by simp),
      answeredWith_refuse]
  have ranges : (3 < n.toNat ∨ ¬ ParamsInRange s.nck.wlen ps) ↔
      (3 < n.toNat ∨ ¬ (ps.allowance ≤ 1000 ∧ 1 ≤ ps.pRef ∧ ps.pRef ≤ 2000 ∧ 1 ≤ ps.m ∧ ps.m ≤ 4 ∧ 2 ≤ ps.burst ∧ ps.burst ≤ 16 ∧
        1 ≤ ps.nConfirm ∧ ps.nConfirm ≤ 7 ∧ 1 ≤ ps.gapLimit ∧ ps.gapLimit ≤ 7 ∧ ps.subLim ≤ 100)) ∨ s.nck.wlen < ps.m := by
    have properties : ps.properties ≤ 65535 := word16_le p1 p0
    have tAbs : ps.tAbs ≤ 65535 := word16_le t1 t0
    have tRel : ps.tRel ≤ 255 := Nat.le_of_lt_succ tr.isLt
    unfold ParamsInRange
    omega
  let f : ConfigFields :=
    ⟨b, word16 p1 p0, word16 a1 a0, word16 r1 r0, n, m.toNat, word16 t1 t0, tr.toNat, bf.toNat, nc.toNat, gl.toNat, sb.toNat⟩
  have read : readConfig body = some f := rfl
  have district : districtOf f.district = some d := districtOf_eq_some named
  rw [judged]
  congr 1
  by_cases wrong : 3 < n.toNat ∨ ¬ (ps.allowance ≤ 1000 ∧ 1 ≤ ps.pRef ∧ ps.pRef ≤ 2000 ∧ 1 ≤ ps.m ∧ ps.m ≤ 4 ∧ 2 ≤ ps.burst ∧
      ps.burst ≤ 16 ∧ 1 ≤ ps.nConfirm ∧ ps.nConfirm ≤ 7 ∧ 1 ≤ ps.gapLimit ∧ ps.gapLimit ≤ 7 ∧ ps.subLim ≤ 100)
  · have params : f.params = none := f.params_eq.trans (if_pos wrong)
    rw [if_pos (ranges.2 (.inl wrong))]
    simp only [handle, configureDistrict, read, district, params, answeredWith_refuse]
  have params : f.params = some ps := f.params_eq.trans (if_neg wrong)
  simp only [handle, configureDistrict, read, district, params, answeredWith_ite, answeredWith_refuse]
  by_cases long : s.nck.wlen < ps.m
  · rw [if_pos long, if_pos (ranges.2 (.inr long))]
  · rw [if_neg long, if_neg (fun h => (ranges.1 h).elim wrong long)]
    cases guard : s.guarded p d with
    | some st => rw [State.unlessGuarded_of_some guard]; rfl
    | none =>
      have excess : ∀ e, (if ps.nConfirm < e then ps.nConfirm else e) = min e ps.nConfirm := fun e => by split <;> omega
      rw [State.unlessGuarded_of_none guard]
      simp only [excess, answeredWith_accept]

/-! ## Edit holds -/

theorem EventsNote.unflagged (n : EventsNote) : { n with flags := n.flags &&& ~~~ 0#5 } = n := by
  have same : n.flags &&& ~~~ 0#5 = n.flags := by rw [show ~~~ 0#5 = BitVec.allOnes 5 from rfl, BitVec.and_allOnes]
  rw [same]

/-- A flag raised at one position, as a note of a READ EVENTS sees it. -/
theorem State.raiseAt_note (f : EventFlag) (s : State) (p : Position) :
    (s.raiseAt f p).rqh.events = s.noteAfterRaising (fun q => if q = p then f.mask else 0#5) := by
  rw [State.raiseAt_events, State.noteAfterRaising]
  congr 1
  funext n
  by_cases here : n.position = p
  · by_cases free : (s.station p).role = none <;> simp [here, free, Station.occupied, Option.isSome_iff_ne_none]
  · simp only [here, false_and, if_false, EventsNote.unflagged, ite_self]

/-- A hold that runs out: its district unheld, HOLD_ENDED for its holder, the unit prompted (R18). -/
theorem State.expireHold_eq {s : State} {d : District} {h : Hold} (held : (s.district d).hold = some h) :
    s.expireHold d = { s with
      districts := (s.expireHold d).districts, choiceDue := s.choiceDue || s.flight.isNone, stations := (s.expireHold d).stations
      rqh.events := s.noteAfterRaising (fun q => if q = h.holder then 0x04#5 else 0#5) } := by
  have note := State.raiseAt_note .holdEnded (s.removeHold d) h.holder
  have expired : s.expireHold d = ((s.removeHold d).raiseAt .holdEnded h.holder).prompt := by rw [State.expireHold, held]
  rw [expired, State.prompt_eq, State.raiseAt_frame, note]
  rfl

theorem State.expireHold_district {s : State} {d : District} {h : Hold} (held : (s.district d).hold = some h) (e : District) :
    (s.expireHold d).district e = if e = d then { s.district d with hold := none } else s.district e := by
  have expired : s.expireHold d = ((s.removeHold d).raiseAt .holdEnded h.holder).prompt := by rw [State.expireHold, held]
  rw [expired, State.prompt_eq, State.raiseAt_frame]
  exact State.district_modDistrict s d e _

theorem State.expireHold_station {s : State} {d : District} {h : Hold} (held : (s.district d).hold = some h) (q : Position) :
    (s.expireHold d).station q =
      if q = h.holder ∧ (s.station q).role ≠ none then { s.station q with flags := (s.station q).flags ||| 0x04#5 } else s.station q := by
  have expired : s.expireHold d = ((s.removeHold d).raiseAt .holdEnded h.holder).prompt := by rw [State.expireHold, held]
  have raised := State.raiseAt_station .holdEnded (s.removeHold d) h.holder q
  rw [expired, State.prompt_eq]
  refine Eq.trans raised ?_
  refine if_congr ?_ rfl rfl
  simp only [Station.occupied, Option.isSome_iff_ne_none]
  exact ⟨fun ⟨e, o⟩ => ⟨e, e ▸ o⟩, fun ⟨e, o⟩ => ⟨e, e ▸ o⟩⟩

section
variable {s : State} {p : Position} {r : StationRole} (asks : s.Asks p r) (right : r = .telemetry ∨ r = .service)
  {b : Byte} {d : District} (named : b.toNat = d.1)
include asks right named

theorem exec_holdDistrict (m1 m0 : Byte) :
    exec (.holdDistrict [b, m1, m0]) s = .next
      (if word16 m1 m0 = 0 then s.refusal .holdDistrict [b, m1, m0] .range
       else s.unlessGuarded p d .holdDistrict [b, m1, m0]
         ((s.modDistrict d (fun x => { x with hold := some ⟨p, s.nck.clock.plus (min (word16 m1 m0) 240)⟩ })).answered
           .holdDistrict [b, m1, m0] .ok [byte (min (word16 m1 m0) 240)])) := by
  have allowed : mayRequest .holdDistrict r = true := by simpa [mayRequest] using right
  rw [asks.exec_request (i := .holdDistrict [b, m1, m0]) rfl rfl (by simp) allowed]
  simp only [handle, holdDistrict, readHold, districtOf_eq_some named, answeredWith_ite, answeredWith_refuse]
  congr 1
  refine if_congr Iff.rfl rfl ?_
  cases guard : s.guarded p d with
  | some st => rw [State.unlessGuarded_of_some guard]; rfl
  | none => rw [State.unlessGuarded_of_none guard]; rfl

theorem exec_releaseDistrict :
    exec (.releaseDistrict [b]) s = .next
      (if (s.district d).hold = none then s.refusal .releaseDistrict [b] .state
       else if s.HeldByOther p d then s.refusal .releaseDistrict [b] .locked
       else State.answered { s.modDistrict d (fun x => { x with hold := none }) with choiceDue := s.choiceDue || s.flight.isNone }
         .releaseDistrict [b] .ok []) := by
  have allowed : mayRequest .releaseDistrict r = true := by simpa [mayRequest] using right
  rw [asks.exec_request (i := .releaseDistrict [b]) rfl rfl (by simp) allowed]
  simp only [handle, releaseDistrict, readOne, districtOf_eq_some named]
  congr 1
  rcases Option.eq_none_or_eq_some (s.district d).hold with held | ⟨h, held⟩
  · rw [if_pos held]
    simp only [held, answeredWith_refuse]
  · rw [if_neg (by simp [held])]
    simp only [State.HeldByOther, held, Option.any_some, decide_eq_true_eq, answeredWith_ite, answeredWith_refuse,
      answeredWith_accept, State.prompt_eq]
    by_cases own : h.holder = p
    · rw [if_pos own, if_neg (not_not.2 own)]; rfl
    · rw [if_neg own, if_pos own]

end

/-- Settles O10: a hold ends at its expiry, or is placed and released by request. -/
theorem holdsAreGivenReleasedAndExpire : Obligations.HoldsAreGivenReleasedAndExpire := by
  intro s d h p r b m1 m0 run
  refine ⟨fun held reached => ⟨s.expireHold d, ?_, State.expireHold_eq held, State.expireHold_district held, State.expireHold_station held⟩,
    fun asks right named => ⟨?_, exec_releaseDistrict asks right named⟩⟩
  · rw [exec_holdExpiry run, State.expireIfReached, held]
    exact congrArg _ (if_pos reached)
  · rw [exec_holdDistrict asks right named]; rfl

end Sys2Proof.Machine
end

section
/-!
PROOF. SET BASELINE MODE, LOAD RING and CLEAR RING, each with the re-judge of the watch (R128 to R133).
-/

namespace Sys2Proof.Machine

/-! ## The re-judge (R133) -/

theorem State.raiseAt_modWatch (f : EventFlag) (s : State) (q : Position) (d : District) (g : Watch → Watch) :
    (s.modWatch d g).raiseAt f q = (s.raiseAt f q).modWatch d g := by
  have same : (s.modWatch d g).station q = s.station q := rfl
  unfold State.raiseAt
  rw [same]
  split <;> rfl

theorem State.configChanged_modWatch (s : State) (p : Position) (d : District) (g : Watch → Watch) :
    (s.modWatch d g).configChanged p = (s.configChanged p).modWatch d g :=
  List.foldl_hom (State.modWatch · d g) fun s q => s.raiseAt_modWatch .configChanged q d g

theorem Watch.rejudge_eq (b : Option Int) (w : Watch) :
    w.rejudge b.isSome =
      if (w.state = .quiet ∨ w.state = .watch) ∧ b = none then { w with state := .learning, excess := 0 }
      else if w.state = .learning ∧ b ≠ none then { w with state := .quiet }
      else w := by
  unfold Watch.rejudge
  cases w.state <;> cases b <;> rfl

/-- What an accepted baseline request leaves: the district's baseline record as asked, the watch re-judged, CONFIG_CHANGED for the others. -/
def State.rebased (s : State) (p : Position) (d : District) (bl : Baseline) : State :=
  State.configChanged
    ((s.modBaseline d (fun _ => bl)).modWatch d (fun w =>
      if (w.state = .quiet ∨ w.state = .watch) ∧ bl.b = none then { w with state := .learning, excess := 0 }
      else if w.state = .learning ∧ bl.b ≠ none then { w with state := .quiet }
      else w)) p

theorem State.rebased_eq (s : State) (p : Position) (d : District) (f : Baseline → Baseline) :
    ((s.modBaseline d f).configChanged p).rejudge d = s.rebased p d (f (s.baseline d)) := by
  have baseline : ((s.modBaseline d f).configChanged p).baseline d = f (s.baseline d) := by
    rw [State.configChanged_frame]; exact Table.get_modify_self _ _ _
  have written : s.modBaseline d f = s.modBaseline d (fun _ => f (s.baseline d)) := rfl
  rw [State.rejudge, baseline, State.rebased, State.configChanged_modWatch, written]
  exact congrArg _ (funext fun w => Watch.rejudge_eq _ w)

/-! ## The ring's order (R124, R130) -/

theorem ringRises_iff (es : List RingEntry) : ringRises es = true ↔ (es.map (·.nightDay)).Pairwise (· < ·) := by
  rw [← List.isChain_iff_pairwise]
  induction es with
  | nil => simp [ringRises]
  | cons a es ih =>
    cases es with
    | nil => simp [ringRises]
    | cons b es =>
      rw [ringRises, Bool.and_eq_true, ih, decide_eq_true_eq, List.map_cons, List.map_cons, List.map_cons, List.isChain_cons_cons]

theorem State.ringNotLater_eq_false_iff (s : State) (es : List RingEntry) :
    s.ringNotLater es = false ↔ ∃ e ∈ es, s.nck.nightDay.any (fun n => decide (n < e.nightDay)) = true := by
  unfold State.ringNotLater
  cases s.nck.nightDay <;> simp

theorem baselineMode_ofByte_eq (m : Byte) :
    BaselineMode.ofByte m = if 1 < m.toNat then none else some (if m = 0 then .learned else .fixed) := by
  have one : m = 1 ↔ m.toNat = 1 := BitVec.toNat_inj.symm
  have zero : m = 0 ↔ m.toNat = 0 := BitVec.toNat_inj.symm
  simp only [BaselineMode.ofByte, zero, one]
  by_cases learned : m.toNat = 0
  · simp [learned]
  · by_cases fixed : m.toNat = 1
    · simp [fixed]
    · rw [if_neg learned, if_neg fixed, if_pos (by omega)]

section
variable {s : State} {p : Position} {r : StationRole} (asks : s.Asks p r) (right : r = .telemetry ∨ r = .service)
  {b : Byte} {d : District} (named : b.toNat = d.1)
include asks right named

theorem exec_setBaselineMode (mode k f2 f1 f0 : Byte) :
    exec (.setBaselineMode [b, mode, k, f2, f1, f0]) s = .next
      (if 1 < mode.toNat ∨ k.toNat < 1 ∨ 4 < k.toNat then s.refusal .setBaselineMode [b, mode, k, f2, f1, f0] .range
       else s.unlessGuarded p d .setBaselineMode [b, mode, k, f2, f1, f0]
         (State.answered (s.rebased p d { s.baseline d with
           mode := if mode = 0 then .learned else .fixed, rank := k.toNat, fixed := word24 f2 f1 f0 })
           .setBaselineMode [b, mode, k, f2, f1, f0] .ok [])) := by
  have allowed : mayRequest .setBaselineMode r = true := by simpa [mayRequest] using right
  have fixed : ¬ 16777215 < word24 f2 f1 f0 := by
    have := f2.isLt; have := f1.isLt; have := f0.isLt
    rw [word24_eq]; omega
  rw [asks.exec_request (i := .setBaselineMode [b, mode, k, f2, f1, f0]) rfl rfl (by simp) allowed]
  congr 1
  by_cases code : 1 < mode.toNat
  · have none_ : BaselineMode.ofByte mode = none := (baselineMode_ofByte_eq mode).trans (if_pos code)
    rw [if_pos (.inl code)]
    simp only [handle, setBaselineMode, readMode, districtOf_eq_some named, none_, answeredWith_refuse]
  · have some_ : BaselineMode.ofByte mode = some _ := (baselineMode_ofByte_eq mode).trans (if_neg code)
    simp only [handle, setBaselineMode, readMode, districtOf_eq_some named, some_, fixed, code, or_false, false_or, answeredWith_ite,
      answeredWith_refuse]
    refine if_congr Iff.rfl rfl ?_
    cases guard : s.guarded p d with
    | some st => rw [State.unlessGuarded_of_some guard]; rfl
    | none =>
      rw [State.unlessGuarded_of_none guard]
      exact congrArg (State.answered · _ _ .ok []) (s.rebased_eq p d _)

theorem exec_loadRing {ring : List RingEntry} (short : ring.length ≤ 9)
    (inRange : ∀ e ∈ ring, e.nightDay ≤ 65535 ∧ -2147483648 ≤ e.figure ∧ e.figure ≤ 2147483647) :
    let body := b :: byte ring.length :: ring.flatMap RingEntry.bytes
    exec (.loadRing body) s = .next
      (if 8 < ring.length ∨ ¬ (ring.map (·.nightDay)).Pairwise (· < ·) ∨
          (∃ e ∈ ring, s.nck.nightDay.any (fun n => decide (n < e.nightDay)) = true) then s.refusal .loadRing body .range
       else s.unlessGuarded p d .loadRing body
         (State.answered (s.rebased p d { s.baseline d with ring := ring }) .loadRing body .ok [])) := by
  intro body
  have allowed : mayRequest .loadRing r = true := by simpa [mayRequest] using right
  have read : readLoadRing body = some ⟨b, ring⟩ := readLoadRing_bytes b (by omega) inRange
  have fits : body.length ≤ 61 := by
    have entries := readRingEntries_length (readRingEntries_bytes inRange)
    simp only [body, List.length_cons, entries]
    omega
  rw [asks.exec_request (i := .loadRing body) rfl rfl fits allowed]
  congr 1
  simp only [handle, loadRing, read, districtOf_eq_some named, answeredWith_ite, answeredWith_refuse, State.ringNotLater_eq_false_iff,
    ← Bool.not_eq_true (ringRises ring), ringRises_iff]
  refine if_congr Iff.rfl rfl ?_
  cases guard : s.guarded p d with
  | some st => rw [State.unlessGuarded_of_some guard]; rfl
  | none =>
    rw [State.unlessGuarded_of_none guard]
    exact congrArg (State.answered · _ _ .ok []) (s.rebased_eq p d _)

theorem exec_clearRing :
    exec (.clearRing [b]) s = .next
      (s.unlessGuarded p d .clearRing [b]
        (State.answered (s.rebased p d { s.baseline d with ring := [] }) .clearRing [b] .ok [])) := by
  have allowed : mayRequest .clearRing r = true := by simpa [mayRequest] using right
  rw [asks.exec_request (i := .clearRing [b]) rfl rfl (by simp) allowed]
  congr 1
  simp only [handle, clearRing, readOne, districtOf_eq_some named]
  cases guard : s.guarded p d with
  | some st => rw [State.unlessGuarded_of_some guard]; rfl
  | none =>
    rw [State.unlessGuarded_of_none guard]
    exact congrArg (State.answered · _ _ .ok []) (s.rebased_eq p d _)

end

/-- Settles O50: three requests that write a baseline record and have the watch re-judged. -/
theorem baselineRequestsRejudgeTheWatch : Obligations.BaselineRequestsRejudgeTheWatch := by
  intro s p r d b mode k f2 f1 f0 ring asks right named short inRange
  refine ⟨?_, exec_loadRing asks right named short inRange, exec_clearRing asks right named⟩
  rw [exec_setBaselineMode asks right named, word24_eq]
  rfl

end Sys2Proof.Machine
end

section
/-!
PROOF. SET SERVICE: out of and into service (R68 to R70).
-/

namespace Sys2Proof.Machine

/-! ## Out of service (R69) -/

/-- District `d` out of service, its alert handed over if it had one, before the night-end test. -/
def State.outOfService (s : State) (d : District) : State :=
  { s with
    districts := s.districts.modify d (fun r => { r with inService := false, nightState := .idle, hold := none })
    queue := s.queue.filter (fun e => decide (e.district ≠ d))
    choiceDue := s.choiceDue || ((s.district d).hold.isSome && s.flight.isNone)
    watches := s.watches.modify d (fun _ => { state := .out, excess := 0, gap := 0, alert := .none })
    stations := if (s.watch d).alert = .none then s.stations else s.stations.map (Station.afterAlert d .none)
    rqh.notice := if (s.watch d).alert = .none then s.rqh.notice else s.rqh.notice.filter (fun x => decide (x.district ≠ d)) }

/-- The alert of a watch that is OUT, taken away and handed over. -/
theorem State.changeAlert_out (s : State) (d : District) :
    (s.modWatch d (fun w => { w with state := .out, excess := 0, gap := 0 })).changeAlert d .none =
      { s with
        watches := s.watches.modify d (fun _ => { state := .out, excess := 0, gap := 0, alert := .none })
        stations := if (s.watch d).alert = .none then s.stations else s.stations.map (Station.afterAlert d .none)
        rqh.notice := if (s.watch d).alert = .none then s.rqh.notice else s.rqh.notice.filter (fun x => decide (x.district ≠ d)) } := by
  have watch := s.watch_modWatch_self d (fun w => { w with state := .out, excess := 0, gap := 0 })
  by_cases calm : (s.watch d).alert = .none
  · have same : ({ s.watch d with state := .out, excess := 0, gap := 0 } : Watch) = ⟨.out, 0, 0, .none⟩ := by rw [← calm]
    have written : s.modWatch d (fun w => { w with state := .out, excess := 0, gap := 0 }) =
        s.modWatch d (fun _ => { state := .out, excess := 0, gap := 0, alert := .none }) :=
      congrArg (fun w => { s with watches := s.watches.set d w }) same
    rw [State.changeAlert, if_pos (by rw [watch]; exact calm), if_pos calm, if_pos calm, written]
    rfl
  · rw [State.changeAlert_eq (by rw [watch]; exact calm), if_neg calm, if_neg calm]
    simp only [reduceCtorEq, false_and, if_false]
    have twice := (s.handOver d .none).modWatch_modWatch d (fun w => { w with state := .out, excess := 0, gap := 0 })
      (fun w => { w with alert := .none })
    exact twice

theorem State.takeOut_eq (s : State) (d : District) : s.takeOut d = (s.outOfService d).nightEndTest := by
  have away := State.changeAlert_out
    (({ s with queue := s.queue.filter (fun e => decide (e.district ≠ d)) } : State).modDistrict d
      (fun r => { r with inService := false, nightState := .idle })) d
  simp only [State.takeOut]
  rw [away]
  congr 1
  rcases Option.eq_none_or_eq_some (s.district d).hold with free | ⟨h, held⟩
  · have record : ({ s.district d with inService := false, nightState := .idle, hold := none } : DistrictRecord) =
        { s.district d with inService := false, nightState := .idle } := by rw [← free]
    have districts : s.districts.modify d (fun r => { r with inService := false, nightState := .idle, hold := none }) =
        s.districts.modify d (fun r => { r with inService := false, nightState := .idle }) :=
      congrArg (s.districts.set d) record
    simp only [free, Option.isSome_none, Bool.false_eq_true, if_false, State.outOfService, districts, Bool.false_and, Bool.or_false]
    rfl
  · have districts := Table.modify_modify s.districts d (fun r => { r with inService := false, nightState := .idle })
      (fun r => { r with hold := none })
    simp only [held, Option.isSome_some, if_true, State.prompt_eq, State.outOfService, Bool.true_and]
    refine Eq.trans ?_ (congrArg (fun t => ({ s with
      districts := t
      queue := s.queue.filter (fun e => decide (e.district ≠ d))
      choiceDue := s.choiceDue || s.flight.isNone
      watches := s.watches.modify d (fun _ => { state := .out, excess := 0, gap := 0, alert := .none })
      stations := if (s.watch d).alert = .none then s.stations else s.stations.map (Station.afterAlert d .none)
      rqh.notice := if (s.watch d).alert = .none then s.rqh.notice else s.rqh.notice.filter (fun x => decide (x.district ≠ d)) } : State))
      districts)
    rfl

theorem State.outOfService_district (s : State) (d e : District) :
    (s.outOfService d).district e =
      if e = d then { s.district d with inService := false, nightState := .idle, hold := none } else s.district e :=
  Table.get_modify s.districts d e _

theorem State.outOfService_watch (s : State) (d e : District) :
    (s.outOfService d).watch e = if e = d then { state := .out, excess := 0, gap := 0, alert := .none } else s.watch e :=
  Table.get_modify s.watches d e _

theorem State.outOfService_station (s : State) (d : District) (q : Position) :
    (s.outOfService d).station q = if (s.watch d).alert = .none then s.station q else (s.station q).afterAlert d .none := by
  by_cases calm : (s.watch d).alert = .none
  · rw [if_pos calm]; exact congrArg (Table.get · q) (if_pos calm)
  · rw [if_neg calm]
    exact (congrArg (Table.get · q) (if_neg calm)).trans (Table.get_map _ _ q)

/-- A district that goes out of service leaves every pending set (R142, R164). -/
theorem State.outOfService_has {s : State} (notices : NoticeLaw s) (d : District) (q : Position) (e : District) :
    ((s.outOfService d).station q).pendingSet.has e = ((s.station q).pendingSet.has e && decide (e ≠ d)) := by
  obtain ⟨-, pendingLaw⟩ := notices
  rw [State.outOfService_station]
  by_cases calm : (s.watch d).alert = .none
  · rw [if_pos calm]
    by_cases here : e = d
    · have absent : (s.station q).pendingSet.has e = false :=
        Bool.eq_false_iff.2 fun pending => (pendingLaw q e pending).2.2 (here ▸ calm)
      rw [absent, Bool.false_and]
    · simp [here]
  · have subscribed (pending : (s.station q).pendingSet.has d = true) :
        (s.station q).role ≠ none ∧ (s.station q).subscription.has d = true :=
      have ⟨role, subscription, _⟩ := pendingLaw q d pending
      ⟨role, subscription⟩
    rw [if_neg calm, Station.has_afterAlert_of_subscribed subscribed]
    by_cases here : e = d <;> simp [here, Alert.inMask]

theorem State.outOfService_frame (s : State) (d : District) (q : Position) :
    (s.outOfService d).station q = { s.station q with pendingSet := ((s.outOfService d).station q).pendingSet } := by
  rw [State.outOfService_station]
  split
  · rfl
  · exact Station.afterAlert_frame d _ _

/-- No position is vacated, so the noted flags are cancelled as before. -/
theorem State.outOfService_note (s : State) (d : District) (raised : Position → BitVec 5) :
    (s.outOfService d).noteAfterRaising raised = s.noteAfterRaising raised := by
  have role (q : Position) : ((s.outOfService d).station q).role = (s.station q).role := by rw [State.outOfService_frame]
  simp only [State.noteAfterRaising, role]
  rfl

theorem State.outOfService_nightEnds (s : State) (d : District) :
    (s.outOfService d).NightEnds ↔ (s.nck.phase = .settling ∨ s.nck.phase = .closing) ∧ ∀ e : District, e ≠ d → ¬ s.Unclosed e := by
  refine and_congr_right fun _ => forall_congr' fun e => ?_
  by_cases here : e = d
  · simp [State.Unclosed, State.outOfService_district, here]
  · simp [State.Unclosed, State.outOfService_district, here]

/-! ## The request -/

section
variable {s : State} {p : Position} {r : StationRole} (asks : s.Asks p r) (right : r = .telemetry ∨ r = .service)
  {b : Byte} {d : District} (named : b.toNat = d.1)
include asks right named

theorem exec_setServiceOut :
    exec (.setServiceOut b) s = .next
      (if (s.district d).inService = false then s.answered .setService [b, 0] .ok []
       else s.unlessGuarded p d .setService [b, 0] (((s.takeOut d).configChanged p).answered .setService [b, 0] .ok [])) := by
  have allowed : mayRequest .setService r = true := by simpa [mayRequest] using right
  rw [asks.exec_request (i := .setServiceOut b) rfl rfl (by simp) allowed]
  have out : ((0 : Byte) = 1) = False := by simp
  simp only [handle, setService, readService, districtOf_eq_some named, ne_eq, not_true_eq_false, false_and, if_false, out, decide_false,
    answeredWith_ite, answeredWith_accept]
  congr 1
  refine if_congr Iff.rfl rfl ?_
  cases guard : s.guarded p d with
  | some st => rw [State.unlessGuarded_of_some guard]; rfl
  | none => rw [State.unlessGuarded_of_none guard]; rfl

theorem exec_setServiceIn :
    exec (.setServiceIn b) s = .next
      (if (s.district d).inService = true then s.answered .setService [b, 1] .ok []
       else s.unlessGuarded p d .setService [b, 1] (((s.putIn d).configChanged p).answered .setService [b, 1] .ok [])) := by
  have allowed : mayRequest .setService r = true := by simpa [mayRequest] using right
  rw [asks.exec_request (i := .setServiceIn b) rfl rfl (by simp) allowed]
  simp only [handle, setService, readService, districtOf_eq_some named, ne_eq, not_true_eq_false, and_false, if_false, decide_true,
    answeredWith_ite, answeredWith_accept, if_true]
  congr 1
  refine if_congr Iff.rfl rfl ?_
  cases guard : s.guarded p d with
  | some st => rw [State.unlessGuarded_of_some guard]; rfl
  | none => rw [State.unlessGuarded_of_none guard]; rfl

end

/-- The watch of a district that comes into service is written whole. -/
theorem State.putIn_eq (s : State) (d : District) :
    s.putIn d =
      (s.modDistrict d (fun x => { x with inService := true, nightState := if s.nightInProgress then .skipped else .idle })).modWatch d
        (fun _ => { state := if (s.baseline d).b = none then .learning else .quiet, excess := 0, gap := 0, alert := .none }) := by
  have stage : (if (s.baseline d).b.isSome then WatchState.quiet else .learning) =
      if (s.baseline d).b = none then .learning else .quiet := by
    cases (s.baseline d).b <;> rfl
  unfold State.putIn
  dsimp only
  rw [stage]

section
variable {ends : Prop} [Decidable ends]

/-- The flags that leaving service raises at position `q`: NIGHT_CLOSED if the night ends, CONFIG_CHANGED for the stations other than `p`. -/
def serviceFlags (ends : Prop) [Decidable ends] (p q : Position) : BitVec 5 :=
  (if ends then 0x02#5 else 0#5) ||| (if q ≠ p then 0x10#5 else 0#5)

theorem State.left_role {s : State} (h : s.NightEnds ↔ ends) (q : Position) :
    (s.nightEndTest.station q).role = (s.station q).role := by rw [State.nightEndTest_station_flags h]

/-- The note of a READ EVENTS after the night-end test and CONFIG_CHANGED (R169). -/
theorem State.left_events {s : State} (h : s.NightEnds ↔ ends) (p : Position) :
    (s.nightEndTest.configChanged p).rqh.events = s.noteAfterRaising (serviceFlags ends p) := by
  have events : s.nightEndTest.rqh.events = if ends then s.noteAfterRaising (fun _ => 0x02#5) else s.rqh.events := by
    rw [State.nightEndTest_effect h]
  have both : ∀ x : BitVec 5, x &&& 29#5 &&& 15#5 = x &&& 13#5 := by decide
  have nothing : ∀ x : BitVec 5, x = x &&& 31#5 := by decide
  rw [State.configChanged_events, events]
  simp only [State.left_role h, State.noteAfterRaising, serviceFlags]
  rcases Option.eq_none_or_eq_some s.rqh.events with absent | ⟨n, noted⟩
  · by_cases e : ends <;> simp only [e, if_true, if_false, absent, Option.map_none]
  obtain ⟨q, x⟩ := n
  by_cases free : (s.station q).role = none
  · by_cases e : ends <;> simp [e, noted, free]
  · by_cases e : ends <;> by_cases other : q = p
    · subst other; simp [e, noted, free]
    · simp [e, noted, free, other]; exact both x
    · subst other; simp [e, noted, free]; exact nothing x
    · simp [e, noted, free, other]

/-- The flags of the stations after the night-end test and CONFIG_CHANGED (R168). -/
theorem State.left_station {s : State} (h : s.NightEnds ↔ ends) (p q : Position) :
    (s.nightEndTest.configChanged p).station q = { s.station q with
      flags := if (s.station q).role = none then (s.station q).flags
               else (s.station q).flags ||| (if ends then 0x02#5 else 0#5) ||| (if q ≠ p then 0x10#5 else 0#5) } := by
  rw [State.configChanged_station, State.left_role h, State.nightEndTest_station_flags h]
  by_cases free : (s.station q).role = none
  · simp [free]
  · by_cases e : ends <;> by_cases other : q = p <;> simp [free, e, other]

end

/-- Settles O49: OUT is the district's own records, the alert taken away and handed over, the night-end test, and CONFIG_CHANGED; IN is the
district's own records and CONFIG_CHANGED. -/
theorem setServiceTakesOutAndPutsIn : Obligations.SetServiceTakesOutAndPutsIn := by
  intro s p r d b asks right named notices ends
  refine ⟨?_, ?_⟩
  · have judged := exec_setServiceOut asks right named
    split
    next out => rw [judged, if_pos out]
    next serves =>
      rw [if_neg serves, State.unlessGuarded] at judged
      split
      next busy => rw [judged, if_pos busy]
      next idle =>
        rw [if_neg idle] at judged
        split
        next locked => rw [judged, if_pos locked]
        next free =>
          rw [if_neg free, State.takeOut_eq] at judged
          have h : (s.outOfService d).NightEnds ↔ ends := s.outOfService_nightEnds d
          have kept : (s.outOfService d).nightEndTest.configChanged p = { s.outOfService d with
              nck.phase := if ends then .daytime else s.nck.phase
              stations := ((s.outOfService d).nightEndTest.configChanged p).stations
              rqh.events := s.noteAfterRaising (serviceFlags ends p) } := by
            have closed := State.nightEndTest_effect h
            refine (State.configChanged_frame _ p).trans ?_
            rw [State.left_events h, State.outOfService_note]
            exact congrArg (fun u : State => { u with
              stations := ((s.outOfService d).nightEndTest.configChanged p).stations
              rqh.events := s.noteAfterRaising (serviceFlags ends p) }) closed
          have station := State.left_station h p
          have has := State.outOfService_has notices d
          have pendingSet (q : Position) : (((s.outOfService d).nightEndTest.configChanged p).station q).pendingSet =
              ((s.outOfService d).station q).pendingSet := by rw [station q]
          generalize (s.outOfService d).nightEndTest.configChanged p = t at judged kept station pendingSet
          have districts : t.districts = (s.outOfService d).districts := by rw [kept]
          have watches : t.watches = (s.outOfService d).watches := by rw [kept]
          refine ⟨_, judged, congrArg (State.answered · .setService [b, 0] .ok []) ?_, fun e => ?_, fun e => ?_, fun q => ?_, fun q e => ?_⟩
          · refine kept.trans ?_
            rw [show (t.answered .setService [b, 0] .ok []).districts = _ from districts,
              show (t.answered .setService [b, 0] .ok []).watches = _ from watches]
            rfl
          · exact (congrArg (Table.get · e) districts).trans (s.outOfService_district d e)
          · exact (congrArg (Table.get · e) watches).trans (s.outOfService_watch d e)
          · refine (station q).trans ?_
            rw [State.outOfService_frame, ← pendingSet]; rfl
          · exact (congrArg (DistrictSet.has · e) (pendingSet q)).trans (has q e)
  · rw [exec_setServiceIn asks right named, State.putIn_eq]

end Sys2Proof.Machine
end

section
/-!
PROOF. SET STATION (R161, R162, R77, R142).
-/

namespace Sys2Proof.Machine

/-! ## The rebuilt pending set (R162 action 4) -/

theorem foldl_add_has (f : District → Bool) (ds : List District) (x : DistrictSet) (e : District) :
    (ds.foldl (fun x d => if f d then x.add d else x) x).has e = (x.has e || (decide (e ∈ ds) && f e)) := by
  induction ds generalizing x with
  | nil => simp
  | cons d ds ih =>
    rw [List.foldl_cons, ih]
    by_cases here : e = d
    · subst here
      by_cases wanted : f e = true <;> simp [wanted, DistrictSet.has_add]
    · by_cases wanted : f d = true <;> simp [wanted, DistrictSet.has_add, here]

theorem State.rebuiltSet_has (s : State) (st : Station) (d : District) :
    (s.rebuiltSet st).has d = (st.subscription.has d && (s.watch d).alert.inMask st.kindMask) := by
  rw [State.rebuiltSet, foldl_add_has (fun d => st.subscription.has d && st.wantsKind (s.watch d).alert), Station.wantsKind_eq]
  simp [mem_allDistricts, DistrictSet.has]

/-! ## Holds of a position that end (R77) -/

theorem DistrictRecord.withoutHoldOf_eq (q : Position) (r : DistrictRecord) :
    r.withoutHoldOf q = if r.hold.map (·.holder) = some q then { r with hold := none } else r := by
  unfold DistrictRecord.withoutHoldOf
  rcases Option.eq_none_or_eq_some r.hold with free | ⟨h, held⟩
  · simp [free]
  · simp [held]

theorem State.endHoldsOf_district (s : State) (q : Position) (d : District) :
    (s.endHoldsOf q).district d =
      if (s.district d).hold.map (·.holder) = some q then { s.district d with hold := none } else s.district d := by
  rw [← DistrictRecord.withoutHoldOf_eq]
  unfold State.endHoldsOf
  split
  next => rw [State.prompt_eq]; exact Table.get_map _ _ d
  next other =>
    have free : ¬ (s.district d).hold.map (·.holder) = some q := fun held =>
      other ((s.any_districts _).2 ⟨d, decide_eq_true held⟩)
    rw [DistrictRecord.withoutHoldOf_eq, if_neg free]

theorem State.endHoldsOf_eq (s : State) (q : Position) :
    s.endHoldsOf q = { s with
      districts := (s.endHoldsOf q).districts
      choiceDue := s.choiceDue || decide (s.flight = none ∧ ∃ d : District, (s.district d).hold.map (·.holder) = some q) } := by
  have holds := s.any_districts (fun r => decide (r.hold.map (·.holder) = some q))
  simp only [decide_eq_true_eq] at holds
  unfold State.endHoldsOf
  by_cases held : ∃ d : District, (s.district d).hold.map (·.holder) = some q
  · rw [if_pos (holds.2 held), State.prompt_eq]
    simp only [held, and_true]
    cases s.flight <;> rfl
  · rw [if_neg (mt holds.1 held)]
    simp only [held, and_false, decide_false, Bool.or_false]

/-! ## CLEARED alerts that end (R142) -/

theorem Option.filter_of_all {α : Type} {f : α → Bool} (o : Option α) (all : ∀ x, f x = true) : o.filter f = o := by
  cases o <;> simp [all]

/-- The CLEARED alerts of a list of districts that end: nothing but their watches and the note of a TAKE NOTICE changes. -/
theorem State.endClearedEach_eq (ds : List District) (distinct : ds.Nodup) (s : State) :
    ds.foldl State.endCleared s = { s with
      watches := (ds.foldl State.endCleared s).watches
      rqh.notice := s.rqh.notice.filter (fun x => decide (¬ (x.district ∈ ds ∧ s.ClearedEnds x.district))) } ∧
    ∀ d : District, (ds.foldl State.endCleared s).watch d =
      if d ∈ ds ∧ s.ClearedEnds d then { s.watch d with alert := .none } else s.watch d := by
  induction ds generalizing s with
  | nil =>
    refine ⟨?_, fun d => by simp⟩
    rw [Option.filter_of_all _ (by simp)]
    rfl
  | cons e ds ih =>
    obtain ⟨fresh, distinct⟩ := List.nodup_cons.1 distinct
    obtain ⟨frame, watch⟩ := ih distinct (s.endCleared e)
    have others : ∀ d, d ≠ e → (s.endCleared e).watch d = s.watch d := fun d other => by
      rw [State.endCleared_eq]; exact s.watch_modWatch_ne _ other
    have own : (s.endCleared e).watch e = if s.ClearedEnds e then { s.watch e with alert := .none } else s.watch e := by
      rw [State.endCleared_eq]
      refine (s.watch_modWatch_self e _).trans ?_
      split <;> rfl
    have stations : ∀ q, (s.endCleared e).station q = s.station q := fun q => by rw [State.endCleared_eq]; rfl
    have ends : ∀ d, d ≠ e → ((s.endCleared e).ClearedEnds d ↔ s.ClearedEnds d) := fun d other => by
      simp only [State.ClearedEnds, others d other, stations]
    have notice : (s.endCleared e).rqh.notice = s.rqh.notice.filter (fun x => decide (¬ (x.district = e ∧ s.ClearedEnds e))) := by
      rw [State.endCleared_eq]
      by_cases h : s.ClearedEnds e
      · simp [h]
      · exact (if_neg h).trans (Option.filter_of_all _ (by simp [h])).symm
    rw [List.foldl_cons]
    refine ⟨?_, fun d => ?_⟩
    · have notes : (s.endCleared e).rqh.notice.filter (fun x => decide (¬ (x.district ∈ ds ∧ (s.endCleared e).ClearedEnds x.district))) =
          s.rqh.notice.filter (fun x => decide (¬ (x.district ∈ e :: ds ∧ s.ClearedEnds x.district))) := by
        rw [notice, Option.filter_filter]
        congr 1
        funext x
        rw [← Bool.decide_and, decide_eq_decide]
        by_cases here : x.district = e
        · simp [here, fresh]
        · simp [here, ends _ here]
      rw [notes] at frame
      exact frame.trans (congrArg (fun u : State => { u with
        watches := (ds.foldl State.endCleared (s.endCleared e)).watches
        rqh.notice := s.rqh.notice.filter (fun x => decide (¬ (x.district ∈ e :: ds ∧ s.ClearedEnds x.district))) })
        (s.endCleared_eq e))
    · rw [watch d]
      by_cases here : d = e
      · subst here
        rw [if_neg fun h => fresh h.1, own]
        simp
      · simp only [ends d here, others d here, List.mem_cons, here, false_or]

/-! ## The entry written (R162) -/

/-- The part with the entry of `q` rewritten and the holds it loses ended, before R142 looks at the alerts. -/
def State.entryWritten (s : State) (q : Position) (st : Station) : State :=
  if (s.station q).address ≠ st.address ∨ (s.station q).role ≠ st.role ∨ st.role = none then (s.writeEntry q st).endHoldsOf q
  else s.writeEntry q st

section
variable (s : State) (q : Position) (st : Station)

/-- The change that ends the holds of a rewritten position (R77). -/
abbrev State.EntryEnds : Prop := (s.station q).address ≠ st.address ∨ (s.station q).role ≠ st.role ∨ st.role = none

/-- The pending sets after the rewriting: the own one rebuilt, the others kept. -/
def State.rebuiltHas (x : Position) (d : District) : Bool :=
  if x = q then st.subscription.has d && (s.watch d).alert.inMask st.kindMask else (s.station x).pendingSet.has d

theorem State.entryWritten_eq :
    s.entryWritten q st = { s with
      districts := (s.entryWritten q st).districts
      choiceDue := s.choiceDue ||
        decide (s.EntryEnds q st ∧ s.flight = none ∧ ∃ d : District, (s.district d).hold.map (·.holder) = some q)
      stations := (s.writeEntry q st).stations } := by
  unfold State.entryWritten
  by_cases ends : s.EntryEnds q st
  · rw [if_pos ends, State.endHoldsOf_eq]
    simp only [ends, true_and]
    rfl
  · rw [if_neg ends]
    simp only [ends, false_and, decide_false, Bool.or_false]
    rfl

theorem State.entryWritten_district (d : District) :
    (s.entryWritten q st).district d =
      if s.EntryEnds q st ∧ (s.district d).hold.map (·.holder) = some q then { s.district d with hold := none } else s.district d := by
  unfold State.entryWritten
  by_cases ends : s.EntryEnds q st
  · rw [if_pos ends]
    refine ((s.writeEntry q st).endHoldsOf_district q d).trans ?_
    simp only [ends, true_and]
    rfl
  · rw [if_neg ends, if_neg fun h => ends h.1]
    rfl

theorem State.entryWritten_station (x : Position) :
    (s.entryWritten q st).station x = if x = q then { st with flags := 0#5, pendingSet := s.rebuiltSet st } else s.station x := by
  rw [State.entryWritten_eq]
  exact s.station_modStation q x _

theorem State.entryWritten_has (x : Position) (d : District) :
    ((s.entryWritten q st).station x).pendingSet.has d = s.rebuiltHas q st x d := by
  rw [State.entryWritten_station, State.rebuiltHas]
  split
  · exact s.rebuiltSet_has st d
  · rfl

theorem State.entryWritten_clearedEnds (d : District) :
    (s.entryWritten q st).ClearedEnds d ↔ (s.watch d).alert = .cleared ∧ ∀ x : Position, s.rebuiltHas q st x d = false := by
  have watch : (s.entryWritten q st).watch d = s.watch d := by rw [State.entryWritten_eq]; rfl
  simp only [State.ClearedEnds, State.entryWritten_has, watch]

theorem State.setStation_eq : s.setStation q st = allDistricts.foldl State.endCleared (s.entryWritten q st) := rfl

/-- SET STATION touches the entry, the holds it ends, "choice due", the alerts that R142 ends, and the note of a TAKE NOTICE. -/
theorem State.setStation_effect :
    s.setStation q st = { s with
      districts := (s.setStation q st).districts
      choiceDue := s.choiceDue ||
        decide (s.EntryEnds q st ∧ s.flight = none ∧ ∃ d : District, (s.district d).hold.map (·.holder) = some q)
      watches := (s.setStation q st).watches, stations := (s.setStation q st).stations
      rqh.notice := s.rqh.notice.filter (fun x =>
        decide (¬ ((s.watch x.district).alert = .cleared ∧ ∀ y : Position, s.rebuiltHas q st y x.district = false))) } := by
  obtain ⟨frame, -⟩ := State.endClearedEach_eq allDistricts nodup_allDistricts (s.entryWritten q st)
  simp only [mem_allDistricts, true_and, State.entryWritten_clearedEnds] at frame
  rw [← State.setStation_eq] at frame
  have districts : (s.setStation q st).districts = (s.entryWritten q st).districts := by rw [frame]
  have stations : (s.setStation q st).stations = (s.writeEntry q st).stations := by rw [frame, State.entryWritten_eq]
  have notice : (s.entryWritten q st).rqh.notice = s.rqh.notice := by rw [State.entryWritten_eq]
  rw [districts, stations]
  refine frame.trans ?_
  rw [notice]
  exact congrArg (fun u : State => { u with
    watches := (s.setStation q st).watches
    rqh.notice := s.rqh.notice.filter (fun x : NoticeNote =>
      decide (¬ ((s.watch x.district).alert = Alert.cleared ∧ ∀ y : Position, s.rebuiltHas q st y x.district = false))) })
    (s.entryWritten_eq q st)

theorem State.setStation_district (d : District) : (s.setStation q st).district d = (s.entryWritten q st).district d := by
  have districts : (s.setStation q st).districts = (s.entryWritten q st).districts := by
    rw [State.setStation_eq, (State.endClearedEach_eq allDistricts nodup_allDistricts (s.entryWritten q st)).1]
  exact congrArg (Table.get · d) districts

theorem State.setStation_station (x : Position) : (s.setStation q st).station x = (s.entryWritten q st).station x := by
  have stations : (s.setStation q st).stations = (s.entryWritten q st).stations := by
    rw [State.setStation_eq, (State.endClearedEach_eq allDistricts nodup_allDistricts (s.entryWritten q st)).1]
  exact congrArg (Table.get · x) stations

theorem State.setStation_watch (d : District) :
    (s.setStation q st).watch d =
      if (s.watch d).alert = Alert.cleared ∧ ∀ x : Position, s.rebuiltHas q st x d = false then { s.watch d with alert := .none }
      else s.watch d := by
  have watch : (s.entryWritten q st).watch d = s.watch d := by rw [State.entryWritten_eq]; rfl
  rw [State.setStation_eq, (State.endClearedEach_eq allDistricts nodup_allDistricts (s.entryWritten q st)).2]
  simp only [mem_allDistricts, true_and, State.entryWritten_clearedEnds, watch]

end

/-! ## The request's checks (R161) -/

/-- What a role byte that R194 lists names. -/
theorem stationRoleOf_eq (b : Byte) :
    stationRoleOf b =
      if 4 < b.toNat then none
      else some (if b = 0 then none else if b.toNat = 1 then some .telemetry
        else if b = 2 then some .gateway else if b = 3 then some .pressure else some .service) := by
  have four : b = 4 ↔ b.toNat = 4 := BitVec.toNat_inj.symm
  have three : b = 3 ↔ b.toNat = 3 := BitVec.toNat_inj.symm
  have two : b = 2 ↔ b.toNat = 2 := BitVec.toNat_inj.symm
  have one : b = 1 ↔ b.toNat = 1 := BitVec.toNat_inj.symm
  have zero : b = 0 ↔ b.toNat = 0 := BitVec.toNat_inj.symm
  simp only [stationRoleOf, zero, one, two, three, four]
  by_cases above : 4 < b.toNat
  · rw [if_pos above]
    simp only [show b.toNat ≠ 0 by omega, show b.toNat ≠ 1 by omega, show b.toNat ≠ 2 by omega, show b.toNat ≠ 3 by omega,
      show b.toNat ≠ 4 by omega, if_false]
  · rw [if_neg above]
    obtain h | h | h | h | h : b.toNat = 0 ∨ b.toNat = 1 ∨ b.toNat = 2 ∨ b.toNat = 3 ∨ b.toNat = 4 := by omega
    all_goals simp [h]

theorem State.addressTaken_iff (s : State) (q : Position) {a : Nat} (fits : a ≤ 15) :
    s.addressTaken q (BitVec.ofNat 4 a) = true ↔
      ∃ x : Position, x ≠ q ∧ (s.station x).role ≠ none ∧ (s.station x).address.toNat = a := by
  have same (y : BitVec 4) : y = BitVec.ofNat 4 a ↔ y.toNat = a := by
    rw [← BitVec.toNat_inj, BitVec.toNat_ofNat, Nat.mod_eq_of_lt (by omega)]
  simp [State.addressTaken, mem_allPositions, Station.occupied, Option.isSome_iff_ne_none, same, and_assoc]

theorem subscription_eq (s3 s2 s1 s0 : Byte) : BitVec.ofNat 32 (word32 s3 s2 s1 s0) = s3 ++ s2 ++ s1 ++ s0 := by
  have h3 := s3.isLt; have h2 := s2.isLt; have h1 := s1.isLt; have h0 := s0.isLt
  apply BitVec.eq_of_toNat_eq
  simp only [BitVec.toNat_append, BitVec.toNat_ofNat, word32_eq]
  rw [← Nat.shiftLeft_add_eq_or_of_lt h2, ← Nat.shiftLeft_add_eq_or_of_lt h1, ← Nat.shiftLeft_add_eq_or_of_lt h0]
  simp only [Nat.shiftLeft_eq]
  omega

/-- What the request refuses (R161). -/
def State.refusesStation (s : State) (q : Position) (b a role k e : Byte) : Prop :=
  b.toNat = 0 ∨ 3 < b.toNat ∨ 4 < role.toNat ∨ role.toNat = 1 ∨ 15 < k.toNat ∨ 31 < e.toNat ∨
    (role ≠ 0 ∧ (a.toNat = 0 ∨ 15 < a.toNat ∨
      ∃ x : Position, x ≠ q ∧ (s.station x).role ≠ none ∧ (s.station x).address.toNat = a.toNat))

/-- The entry the request asks for. -/
def askedStation (a role s3 s2 s1 s0 k e : Byte) : Station :=
  if role = 0 then
    { address := 0#4, role := none, subscription := 0#32, kindMask := 0#4, eventMask := 0#5, pendingSet := 0#32, flags := 0#5 }
  else
    { address := BitVec.ofNat 4 a.toNat, role := if role = 2 then some .gateway else if role = 3 then some .pressure else some .service
      subscription := s3 ++ s2 ++ s1 ++ s0, kindMask := BitVec.ofNat 4 k.toNat, eventMask := BitVec.ofNat 5 e.toNat
      pendingSet := 0#32, flags := 0#5 }

theorem askedStation_flags (a role s3 s2 s1 s0 k e : Byte) : (askedStation a role s3 s2 s1 s0 k e).flags = 0#5 := by
  unfold askedStation; split <;> rfl

section
variable (s : State) (p : Position) {q : Position} {b a role s3 s2 s1 s0 k e : Byte}

/-- The entry asked for with a role other than TELEMETRY, and its checks. -/
theorem askedStation_of_role (h : role ≠ 0) :
    askedStation a role s3 s2 s1 s0 k e =
      { address := BitVec.ofNat 4 a.toNat, role := if role = 2 then some .gateway else if role = 3 then some .pressure else some .service
        subscription := BitVec.ofNat 32 (word32 s3 s2 s1 s0), kindMask := BitVec.ofNat 4 k.toNat, eventMask := BitVec.ofNat 5 e.toNat
        pendingSet := 0#32, flags := 0#5 } := by
  rw [askedStation, if_neg h, subscription_eq]

/-- SET STATION for a position 1 to 3, with masks in range and a role byte that R194 lists. -/
theorem setStation_of_place (place : b.toNat = q.1) (own : 1 ≤ b.toNat) (kinds : k.toNat ≤ 15) (events : e.toNat ≤ 31)
    (listed : role.toNat ≤ 4) :
    setStation s p [b, a, role, s3, s2, s1, s0, k, e] =
      if role.toNat = 1 ∨ (role ≠ 0 ∧ (a.toNat = 0 ∨ 15 < a.toNat ∨
        ∃ x : Position, x ≠ q ∧ (s.station x).role ≠ none ∧ (s.station x).address.toNat = a.toNat)) then refuse s .range
      else accept (s.setStation q (askedStation a role s3 s2 s1 s0 k e)) [] := by
  have position : 1 ≤ b.toNat ∧ b.toNat < 4 := ⟨own, place ▸ q.2⟩
  have index : (⟨b.toNat, position.2⟩ : Position) = q := Fin.ext place
  have masks : ¬ (16 ≤ k.toNat ∨ 32 ≤ e.toNat) := by omega
  simp only [setStation, readStation, stationRoleOf_eq, if_neg (Nat.not_lt.2 listed), dif_pos position, index, if_neg masks]
  by_cases empty : role = 0
  · subst empty
    exact (if_neg (by simp)).symm
  by_cases telemetry : role.toNat = 1
  · refine Eq.trans ?_ (if_pos (.inl telemetry)).symm
    simp only [empty, telemetry, if_true, if_false]
  simp only [empty, telemetry, if_false, false_or, ne_eq, not_false_eq_true, true_and, askedStation_of_role empty]
  by_cases address : a.toNat = 0 ∨ 15 < a.toNat
  · rw [if_pos (or_assoc.1 (.inl address))]
    split_ifs <;> rfl
  · have taken := s.addressTaken_iff q (a := a.toNat) (by omega)
    have left : (a.toNat = 0 ∨ 15 < a.toNat ∨
        ∃ x : Position, x ≠ q ∧ (s.station x).role ≠ none ∧ (s.station x).address.toNat = a.toNat) ↔
        s.addressTaken q (BitVec.ofNat 4 a.toNat) = true := by
      rw [taken, ← or_assoc, or_iff_right address]
    simp only [left]
    split_ifs <;> rfl

theorem setStation_of_refused (place : b.toNat = q.1 ∨ 3 < b.toNat) (refused : s.refusesStation q b a role k e) :
    setStation s p [b, a, role, s3, s2, s1, s0, k, e] = refuse s .range := by
  unfold State.refusesStation at refused
  by_cases listed : 4 < role.toNat
  · simp only [setStation, readStation, stationRoleOf_eq, if_pos listed]
  by_cases position : 1 ≤ b.toNat ∧ b.toNat < 4
  · by_cases masks : 16 ≤ k.toNat ∨ 32 ≤ e.toNat
    · simp only [setStation, readStation, stationRoleOf_eq, if_neg listed, dif_pos position, if_pos masks]
    · rw [setStation_of_place s p (place.resolve_right (by omega)) position.1 (by omega) (by omega) (Nat.not_lt.1 listed)]
      exact if_pos ((((((refused.resolve_left (by omega)).resolve_left (by omega)).resolve_left listed).imp_right
        fun h => (h.resolve_left (by omega)).resolve_left (by omega))))
  · simp only [setStation, readStation, stationRoleOf_eq, if_neg listed, dif_neg position]

theorem setStation_of_accepted (place : b.toNat = q.1 ∨ 3 < b.toNat) (accepted : ¬ s.refusesStation q b a role k e) :
    setStation s p [b, a, role, s3, s2, s1, s0, k, e] = accept (s.setStation q (askedStation a role s3 s2 s1 s0 k e)) [] := by
  simp only [State.refusesStation, not_or] at accepted
  obtain ⟨own, inside, listed, telemetry, kinds, events, address⟩ := accepted
  rw [setStation_of_place s p (place.resolve_right inside) (by omega) (by omega) (by omega) (by omega)]
  exact if_neg (not_or.2 ⟨telemetry, by simpa only [not_or] using address⟩)

end

/-- Settles O52: the checks of R161 first, then the entry with all that follows from it. -/
theorem setStationRewritesTheEntry : Obligations.SetStationRewritesTheEntry := by
  intro s p q b a role s3 s2 s1 s0 k e asks place body new ends rebuilt
  have judged := asks.exec_request (i := .setStation body) rfl rfl (by simp [body]) rfl
  rw [judged]
  split
  next refused =>
    rw [show handle .setStation s p body = _ from setStation_of_refused s p place refused, answeredWith_refuse]
  next accepted =>
    rw [show handle .setStation s p body = _ from setStation_of_accepted s p place accepted, answeredWith_accept]
    have station (x : Position) : (s.setStation q new).station x =
        if x = q then { new with flags := 0#5, pendingSet := s.rebuiltSet new } else s.station x :=
      (s.setStation_station q new x).trans (s.entryWritten_station q new x)
    have has (x : Position) (d : District) : ((s.setStation q new).station x).pendingSet.has d = rebuilt x d := by
      rw [s.setStation_station q new x]; exact s.entryWritten_has q new x d
    have district (d : District) := (s.setStation_district q new d).trans (s.entryWritten_district q new d)
    have watch := s.setStation_watch q new
    have effect := s.setStation_effect q new
    have flags : new.flags = 0#5 := askedStation_flags a role s3 s2 s1 s0 k e
    rw [show askedStation a role s3 s2 s1 s0 k e = new from rfl]
    generalize s.setStation q new = t at station has district watch effect
    refine ⟨_, rfl, congrArg (State.answered · .setStation body .ok []) effect, district, watch, fun x => ?_, has⟩
    refine (station x).trans ?_
    rw [show (t.answered .setStation body .ok []).station x = _ from station x]
    split
    · rw [← flags]
    · rfl

end Sys2Proof.Machine
end

section
/-!
PROOF. The night minimum, the figures with their verdict, and the ranked baseline (R103 to R109, R114 to R119, R125).
-/

namespace Sys2Proof.Machine

/-! ## The least smoothed mean (R103 to R109) -/

/-- The substitute of a slot in the manual's words: the mean of what it filed, else the held mean (R96). -/
theorem SnapshotSlot.substitute_getD (sl : SnapshotSlot) :
    sl.substitute.getD 0 =
      if filledVolumes sl.cells ≠ [] then (filledVolumes sl.cells).sum / (filledVolumes sl.cells).length else sl.heldMean.getD 0 := by
  unfold SnapshotSlot.substitute filledMean
  by_cases filed : filledVolumes sl.cells = [] <;> simp [filed]

theorem SnapshotSlot.contribution_of_filled {sl : SnapshotSlot} {k : Nat} {c : Cell} (cell : sl.cells[k]? = some c)
    (filled : c.state ≠ .empty) : sl.contribution k = c.volume := by
  simp [SnapshotSlot.contribution, List.getD_eq_getElem?_getD, cell, (Cell.filled_iff c).2 filled]

/-- An EMPTY cell, and an index past the cells, contributes the substitute. -/
theorem SnapshotSlot.contribution_of_empty {sl : SnapshotSlot} {k : Nat} (empty : ∀ c, sl.cells[k]? = some c → c.state = .empty) :
    sl.contribution k = sl.substitute.getD 0 := by
  have unfilled : (sl.cells.getD k emptyCell).filled = false := by
    rw [List.getD_eq_getElem?_getD]
    cases cell : sl.cells[k]? with
    | none => rfl
    | some c => exact decide_eq_false (not_not.2 (empty c cell))
  simp only [SnapshotSlot.contribution, unfilled]
  rfl

/-- A sum over the slots of one role is a sum over all slots in which the others count nothing. -/
theorem Snapshot.roleSum_eq (sn : Snapshot) (r : LinkRole) (k : Nat) :
    (sn.roleSum r k : Int) = (sn.slots.map (fun y => if y.role = r then (y.contribution k : Int) else 0)).sum := by
  unfold Snapshot.roleSum
  induction sn.slots with
  | nil => rfl
  | cons y ys ih => by_cases role : y.role = r <;> simp [role, ih]

theorem Snapshot.means_length (sn : Snapshot) : sn.means.length = sn.wlen - sn.params.m + 1 := by simp [Snapshot.means]

theorem Snapshot.means_getElem (sn : Snapshot) (j : Nat) (h : j < sn.means.length) : sn.means[j] = sn.smoothed j := by
  simp [Snapshot.means]

/-- NF is one of the smoothed means and none is smaller. -/
theorem Snapshot.nightFlow_least (sn : Snapshot) : sn.nightFlow ∈ sn.means ∧ ∀ v ∈ sn.means, sn.nightFlow ≤ v := by
  unfold Snapshot.nightFlow
  cases least : sn.means.min? with
  | none =>
    have none_left := congrArg List.length (List.min?_eq_none_iff.1 least)
    rw [Snapshot.means_length] at none_left
    cases none_left
  | some v => exact List.min?_eq_some_iff.1 least

/-- The minimum index is the earliest start whose mean is NF. -/
theorem Snapshot.minIndex_earliest (sn : Snapshot) :
    sn.minIndex < sn.means.length ∧ sn.smoothed sn.minIndex = sn.nightFlow ∧ ∀ j < sn.minIndex, sn.nightFlow < sn.smoothed j := by
  obtain ⟨mem, least⟩ := sn.nightFlow_least
  have inside : sn.minIndex < sn.means.length := List.idxOf_lt_length_of_mem mem
  refine ⟨inside, ?_, fun j before => ?_⟩
  · rw [← sn.means_getElem _ inside]
    exact List.getElem_idxOf inside
  · have at_j := sn.means_getElem j (before.trans inside)
    have ne : sn.means[j] ≠ sn.nightFlow := by
      have missed := List.not_of_lt_findIdx (p := (· == sn.nightFlow)) before
      simpa using missed
    rw [at_j] at ne
    exact lt_of_le_of_ne (at_j ▸ least _ (List.getElem_mem _)) ne.symm

/-- Settles O15: `SnapshotSlot.contribution` and `Snapshot.netFlow` in the manual's words, and the least of the means. -/
theorem nightFlowIsTheLeastMean : Obligations.NightFlowIsTheLeastMean := by
  intro x m1 mlen volumes part sumOf net mean
  have part_eq : ∀ y k, part y k = y.contribution k := by
    intro y k
    have substitute : ((y.substitute.getD 0 : Nat) : Int) =
        if volumes y ≠ [] then ((volumes y).sum : Int) / ((volumes y).length : Int) else ((y.heldMean.getD 0 : Nat) : Int) := by
      rw [y.substitute_getD, apply_ite (Nat.cast : Nat → Int), Int.natCast_ediv]
      rfl
    simp only [part]
    rcases cell : y.cells[k]? with _ | ⟨st, v⟩
    · rw [SnapshotSlot.contribution_of_empty (fun c h => by simp [cell] at h)]; exact substitute.symm
    · cases st with
      | empty =>
        rw [SnapshotSlot.contribution_of_empty (fun c h => by rw [cell] at h; cases h; rfl)]; exact substitute.symm
      | good => rw [SnapshotSlot.contribution_of_filled cell (by simp)]
      | estimated => rw [SnapshotSlot.contribution_of_filled cell (by simp)]
  have sum_eq : ∀ r k, sumOf r k = x.roleSum r k := fun r k => by
    simp only [sumOf, part_eq, Snapshot.roleSum_eq]
  have mean_eq : mean = x.smoothed := by
    funext j
    simp only [mean, net, sum_eq]
    rfl
  rw [mean_eq]
  obtain ⟨inside, reached, earliest⟩ := x.minIndex_earliest
  rw [x.means_length] at inside
  refine ⟨fun j le => x.nightFlow_least.2 _ ?_, by omega, reached, earliest⟩
  rw [← x.means_getElem j (by rw [x.means_length]; omega)]
  exact List.getElem_mem _

/-! ## The figures and the verdict (R114 to R119) -/

theorem clampInt_eq_max_min {lo hi : Int} (h : lo ≤ hi) (v : Int) : clampInt lo hi v = max lo (min hi v) := by
  unfold clampInt
  split <;> [skip; split] <;> omega

theorem clampInt_int32 (v : Int) : clampInt int32Min int32Max v = max (-2147483648) (min 2147483647 v) :=
  clampInt_eq_max_min (by decide) v

/-- The threshold's range (R117). -/
theorem threshold_bounds {p : Params} {wlen : Nat} (ranges : ParamsInRange wlen p) {b : Int} (fits : b ≤ 2147483647) :
    0 ≤ threshold p b ∧ threshold p b ≤ 2139160574 := by
  obtain ⟨-, -, -, -, -, -, -, tAbs, tRel, -⟩ := ranges
  have low : 0 ≤ max b 0 * (p.tRel : Int) := Int.mul_nonneg (le_max_right _ _) (Int.natCast_nonneg _)
  have high : max b 0 * (p.tRel : Int) ≤ 2147483647 * 255 :=
    Int.mul_le_mul (by omega) (by omega) (Int.natCast_nonneg _) (by omega)
  unfold threshold
  omega

/-- The burst threshold is no less than the threshold it multiplies (R118). -/
theorem burstThreshold_ge {p : Params} {wlen : Nat} (ranges : ParamsInRange wlen p) {t : Int} (nonneg : 0 ≤ t) (fits : t ≤ 2147483647) :
    t ≤ burstThreshold p t := by
  obtain ⟨-, -, -, -, -, -, -, -, -, burst, -⟩ := ranges
  have grows : t * 1 ≤ t * (p.burst : Int) := Int.mul_le_mul_of_nonneg_left (by omega) nonneg
  unfold burstThreshold int32Max
  omega

theorem Snapshot.verdict_of_usable {sn : Snapshot} (usable : sn.unusable = none) : sn.result.verdict = sn.verdict := by
  rw [Snapshot.result, usable]

theorem Snapshot.usable_of_figures {sn : Snapshot} {g : Figures} (carried : sn.result.figures = some g) : sn.unusable = none := by
  refine not_not.1 fun bad => ?_
  rw [(Snapshot.result_of_unusable bad).2.1] at carried
  cases carried

/-- Settles O19: each figure is its formula, saturated; the ranges follow from those of the parameters. -/
theorem figuresAndVerdict : Obligations.FiguresAndVerdict := by
  intro x g carried ranges baseline sat c
  have usable := Snapshot.usable_of_figures carried
  obtain rfl := Snapshot.figures_of_result carried
  obtain ⟨-, -, flags⟩ := Snapshot.result_of_usable usable
  rw [Snapshot.verdict_of_usable usable, flags]
  have corrected : x.corrected = sat c := clampInt_int32 _
  refine ⟨rfl, rfl, corrected, fun absent => ?_, fun b present => ?_⟩
  · refine ⟨by simp [Snapshot.figures, absent], by simp [Snapshot.verdict, absent], ?_⟩
    simp only [Snapshot.flags, Snapshot.figureClamped, absent, Bool.or_false]
    rfl
  · intro t tb
    have fits : b ≤ 2147483647 := by simp [present] at baseline; exact baseline.2
    obtain ⟨low, high⟩ := threshold_bounds ranges fits
    have burst : burstThreshold x.params t = tb := min_comm _ _
    have ge := burstThreshold_ge ranges low (by omega)
    have compared : x.compare b = ⟨b, t, sat (x.corrected - b)⟩ := by
      rw [Snapshot.compare, clampInt_int32]; rfl
    refine ⟨by simp only [Snapshot.figures, present, Option.map_some, compared], low, high, burst ▸ ge, fun zero => ?_, ?_, ?_⟩
    · simp [tb, zero]
    · simp only [Snapshot.flags, Snapshot.figureClamped, present, compared, Bool.decide_or]
      rfl
    · simp only [Snapshot.verdict, present, compared, burst, verdictOf]
      rfl

/-! ## The ranked baseline (R125) -/

/-- In a list in order of size, fewer entries than its place are below an entry, and its place's number are no greater. -/
theorem rank_of_pairwise_le {l : List Int} (sorted : l.Pairwise (· ≤ ·)) {i : Nat} (inside : i < l.length) :
    (l.filter (fun x => decide (x < l[i]))).length ≤ i ∧ i < (l.filter (fun x => decide (x ≤ l[i]))).length := by
  have after : ∀ x ∈ l.drop i, l[i] ≤ x := by
    intro x mem
    obtain ⟨j, small, rfl⟩ := List.mem_drop_iff_getElem.1 mem
    rcases Nat.eq_zero_or_pos j with rfl | pos
    · simp
    · exact List.pairwise_iff_getElem.1 sorted i (i + j) inside _ (by omega)
  have before : ∀ x ∈ l.take (i + 1), x ≤ l[i] := by
    intro x mem
    obtain ⟨j, small, rfl⟩ := List.mem_take_iff_getElem.1 mem
    rcases Nat.lt_or_ge j i with lt | ge
    · exact List.pairwise_iff_getElem.1 sorted j i _ inside lt
    · have : j = i := by omega
      subst this; exact Int.le_refl _
  constructor
  · have none_after : (l.drop i).filter (fun x => decide (x < l[i])) = [] :=
      List.filter_eq_nil_iff.2 fun x mem => by simpa using after x mem
    calc (l.filter (fun x => decide (x < l[i]))).length
        = ((l.take i ++ l.drop i).filter (fun x => decide (x < l[i]))).length := by rw [List.take_append_drop]
      _ = ((l.take i).filter (fun x => decide (x < l[i]))).length := by rw [List.filter_append, none_after, List.append_nil]
      _ ≤ (l.take i).length := List.length_filter_le _ _
      _ ≤ i := List.length_take_le _ _
  · have all_before : (l.take (i + 1)).filter (fun x => decide (x ≤ l[i])) = l.take (i + 1) :=
      List.filter_eq_self.2 fun x mem => by simpa using before x mem
    calc i < (l.take (i + 1)).length := by rw [List.length_take]; omega
      _ = ((l.take (i + 1)).filter (fun x => decide (x ≤ l[i]))).length := by rw [all_before]
      _ ≤ (l.filter (fun x => decide (x ≤ l[i]))).length := ((List.take_sublist _ _).filter _).length_le

/-- Settles O20: the k-th entry of the figures in order of size. -/
theorem baselineIsTheRankedFigure : Obligations.BaselineIsTheRankedFigure := by
  intro bl rank figures
  have perm : bl.ranked.Perm figures := List.perm_insertionSort _ _
  have length : bl.ranked.length = bl.ring.length := by rw [perm.length_eq, List.length_map]
  refine ⟨fun fixed => by simp [Baseline.b, fixed], fun learned few => ?_, fun learned enough => ?_⟩
  · simp only [Baseline.b, learned, if_pos rank]
    exact List.getElem?_eq_none (by omega)
  · have inside : bl.rank - 1 < bl.ranked.length := by omega
    obtain ⟨below, upTo⟩ := rank_of_pairwise_le (List.pairwise_insertionSort (· ≤ ·) (bl.ring.map (·.figure))) inside
    refine ⟨bl.ranked[bl.rank - 1], ?_, perm.mem_iff.1 (List.getElem_mem _), ?_, ?_⟩
    · simp only [Baseline.b, learned, if_pos rank]
      exact List.getElem?_eq_getElem inside
    · rw [← (perm.filter _).length_eq]
      exact Nat.lt_of_le_of_lt below (by omega)
    · rw [← (perm.filter _).length_eq]
      exact Nat.le_trans (by omega) upTo

end Sys2Proof.Machine
end

section
/-!
PROOF. What a night's opening or abandonment does district by district (R6, R7, R144, R164): each district is left alone, given a
night state, or given a SKIPPED result.
-/

namespace Sys2Proof.Machine

/-! ## A SKIPPED result applied (R144, R164) -/

/-- One more gap raises DATA_LOSS for `d` (R144). -/
abbrev State.GapRaises (s : State) (d : District) : Prop :=
  ((s.watch d).alert = .none ∨ (s.watch d).alert = .cleared) ∧ (s.district d).params.gapLimit ≤ min 255 ((s.watch d).gap + 1)

theorem Watch.afterGap_eq (gapLimit : Nat) (w : Watch) :
    w.afterGap gapLimit = { w with
      gap := min 255 (w.gap + 1)
      alert := if (w.alert = .none ∨ w.alert = .cleared) ∧ gapLimit ≤ min 255 (w.gap + 1) then .dataLoss else w.alert } := by
  unfold Watch.afterGap
  dsimp only
  rw [bump_eq_min_succ]
  by_cases limit : gapLimit ≤ min 255 (w.gap + 1)
  · cases w.alert <;> simp [limit]
  · simp only [limit, and_false, if_false]

/-- A gap changes no state, so it is handed over exactly where it raises DATA_LOSS. -/
theorem alertHanded_afterGap (s : State) (d : District) :
    alertHanded (s.watch d) ((s.watch d).afterGap (s.district d).params.gapLimit) = true ↔ s.GapRaises d := by
  rw [Watch.afterGap_eq]
  unfold State.GapRaises alertHanded
  dsimp only
  by_cases raised : ((s.watch d).alert = .none ∨ (s.watch d).alert = .cleared) ∧
      (s.district d).params.gapLimit ≤ min 255 ((s.watch d).gap + 1)
  · rw [if_pos raised]
    rcases raised.1 with alert | alert <;> simp [alert, raised]
  · rw [if_neg raised]
    simpa using raised

/-- An alert change to anything but CLEARED is handed over and nothing else. -/
theorem State.alertChanged_lasting {s : State} {d : District} (lasting : (s.watch d).alert ≠ .cleared) :
    s.alertChanged d = s.handOver d (s.watch d).alert := by
  refine if_neg fun ends => lasting ?_
  simp only [Bool.and_eq_true, decide_eq_true_eq] at ends
  exact ends.1

/-- A SKIPPED result counts a gap; the alert it raises is DATA_LOSS, which R142 does not end. -/
theorem State.applyResult_skipped (s : State) (d : District) :
    s.applyResult d .skipped .none = { s with
      watches := s.watches.modify d (Watch.afterGap (s.district d).params.gapLimit)
      stations := if s.GapRaises d then s.stations.map (Station.afterAlert d .dataLoss) else s.stations
      rqh.notice := if s.GapRaises d then s.rqh.notice.filter (fun x => decide (x.district ≠ d)) else s.rqh.notice } := by
  have after : (s.watch d).after (s.district d).params .skipped .none = (s.watch d).afterGap (s.district d).params.gapLimit := rfl
  unfold State.applyResult
  dsimp only
  rw [after]
  by_cases raised : s.GapRaises d
  · have lost : ((s.watch d).afterGap (s.district d).params.gapLimit).alert = .dataLoss := by
      rw [Watch.afterGap_eq]; exact if_pos raised
    have watch := State.watch_modWatch_self s d (fun _ => (s.watch d).afterGap (s.district d).params.gapLimit)
    rw [if_pos ((alertHanded_afterGap s d).2 raised), if_pos raised, if_pos raised,
      State.alertChanged_lasting (by rw [watch, lost]; decide), watch, lost]
    rfl
  · rw [if_neg (mt (alertHanded_afterGap s d).1 raised), if_neg raised, if_neg raised]
    rfl

/-! ## What is done to one district -/

/-- What a night's opening or abandonment does to a district. -/
inductive NightAct
  | keep
  | assign (x : NightState)
  | skip (n : Nat) (why : Reason)

/-- The SKIPPED result of night `n` (R6, R7, R100). -/
def skippedResult (n : Nat) (why : Reason) : Result :=
  { nightDay := n, status := .skipped, reason := some why, flags := ⟨false, false, false, false⟩, slotsUsed := 0,
    cellsSubstituted := 0, figures := none, verdict := .none }

def NightAct.run (s : State) (d : District) : NightAct → State
  | .keep => s
  | .assign x => s.setNightState d x
  | .skip n why => s.publishSkipped d n why

def NightAct.record (r : DistrictRecord) : NightAct → DistrictRecord
  | .keep => r
  | .assign x => { r with nightState := x }
  | .skip n why => { r with nightState := .skipped, result := some (skippedResult n why) }

def NightAct.skips : NightAct → Bool
  | .skip _ _ => true
  | _ => false

def NightAct.keeps : NightAct → Bool
  | .keep => true
  | _ => false

/-- The first of two acts that does something. -/
def NightAct.or : NightAct → NightAct → NightAct
  | .keep, b => b
  | a, _ => a

/-- `t` is `s` after one act for each district. -/
structure State.Acted (act : District → NightAct) (s t : State) : Prop where
  rest : t = { s with
    districts := t.districts, watches := t.watches, stations := t.stations, rqh := { s.rqh with notice := t.rqh.notice } }
  district : ∀ e, t.district e = (act e).record (s.district e)
  watch : ∀ e, t.watch e = if (act e).skips then (s.watch e).afterGap (s.district e).params.gapLimit else s.watch e
  station : ∀ p, t.station p = { s.station p with pendingSet := (t.station p).pendingSet }
  has : ∀ p e, (t.station p).pendingSet.has e =
    if ((act e).skips = true ∧ s.GapRaises e) ∧ (s.station p).role ≠ none ∧ (s.station p).subscription.has e = true then
      (s.station p).kindMask.getLsbD 2 else (s.station p).pendingSet.has e
  notice : t.rqh.notice = s.rqh.notice.filter (fun x => decide ¬ ((act x.district).skips = true ∧ s.GapRaises x.district))

theorem State.Acted.refl (s : State) : s.Acted (fun _ => .keep) s where
  rest := rfl
  district _ := rfl
  watch _ := rfl
  station _ := rfl
  has p e := by simp [NightAct.skips]
  notice := by cases s.rqh.notice <;> simp [NightAct.skips, Option.filter]

/-- The record of a district whose night is SKIPPED. -/
def DistrictRecord.skipped (n : Nat) (why : Reason) (r : DistrictRecord) : DistrictRecord :=
  { r with nightState := .skipped, result := some (skippedResult n why) }

theorem State.publishSkipped_eq (s : State) (d : District) (n : Nat) (why : Reason) :
    s.publishSkipped d n why = (s.modDistrict d (DistrictRecord.skipped n why)).applyResult d .skipped .none :=
  congrArg (fun t => ({ s with districts := t } : State).applyResult d .skipped .none)
    (Table.modify_modify s.districts d (fun r => { r with nightState := .skipped }) (fun r => { r with result := some (skippedResult n why) }))

theorem State.publishSkipped_acted (s : State) (d : District) (n : Nat) (why : Reason) :
    s.Acted (fun e => if e = d then .skip n why else .keep) (s.publishSkipped d n why) := by
  have params : ((s.modDistrict d (DistrictRecord.skipped n why)).district d).params = (s.district d).params := by
    rw [State.district_modDistrict_self]; rfl
  have raises : (s.modDistrict d (DistrictRecord.skipped n why)).GapRaises d ↔ s.GapRaises d := by
    simp only [State.GapRaises, params]; rfl
  rw [State.publishSkipped_eq, State.applyResult_skipped]
  simp only [raises, params]
  have station : ∀ p, Table.get (if s.GapRaises d then s.stations.map (Station.afterAlert d .dataLoss) else s.stations) p =
      if s.GapRaises d then (s.station p).afterAlert d .dataLoss else s.station p := fun p => by
    split
    · exact Table.get_map _ _ p
    · rfl
  refine ⟨rfl, fun e => ?_, fun e => ?_, fun p => ?_, fun p e => ?_, ?_⟩
  · refine (State.district_modDistrict s d e _).trans ?_
    by_cases here : e = d
    · rw [if_pos here, if_pos here, here]; rfl
    · rw [if_neg here, if_neg here]; rfl
  · refine (State.watch_modWatch s d e _).trans ?_
    by_cases here : e = d <;> simp [here, NightAct.skips]
  · refine (station p).trans (Eq.trans ?_ (congrArg (fun x => ({ s.station p with pendingSet := x } : Station)) (congrArg Station.pendingSet (station p).symm)))
    split
    · exact Station.afterAlert_frame d .dataLoss (s.station p)
    · rfl
  · refine (congrArg (fun x : Station => x.pendingSet.has e) (station p)).trans ?_
    by_cases raised : s.GapRaises d
    · rw [if_pos raised, Station.has_afterAlert]
      by_cases here : e = d
      · have yes : s.GapRaises d = True := eq_true raised
        simp only [here, if_true, NightAct.skips, yes, true_and]
        rfl
      · simp [here, NightAct.skips]
    · rw [if_neg raised]
      by_cases here : e = d
      · rw [here, if_neg fun h => raised h.1.2]
      · simp [here, NightAct.skips]
  · dsimp only
    by_cases raised : s.GapRaises d
    · rw [if_pos raised]
      refine congrArg (fun q => s.rqh.notice.filter q) (funext fun x => ?_)
      by_cases here : x.district = d
      · simp [here, raised, NightAct.skips]
      · simp [here, NightAct.skips]
    · rw [if_neg raised]
      change s.rqh.notice = _
      cases s.rqh.notice with
      | none => rfl
      | some x =>
        have kept : ¬ ((if x.district = d then NightAct.skip n why else .keep).skips = true ∧ s.GapRaises x.district) := by
          by_cases here : x.district = d
          · rw [here]; exact fun h => raised h.2
          · rw [if_neg here]; exact fun h => Bool.false_ne_true h.1
        exact (if_pos (decide_eq_true kept)).symm

theorem State.setNightState_acted (s : State) (d : District) (x : NightState) :
    s.Acted (fun e => if e = d then .assign x else .keep) (s.setNightState d x) := by
  have skips : ∀ e, (if e = d then NightAct.assign x else .keep).skips = false := fun e => by by_cases here : e = d <;> simp [here, NightAct.skips]
  refine ⟨rfl, fun e => ?_, fun e => ?_, fun p => rfl, fun p e => ?_, ?_⟩
  · refine (State.district_modDistrict s d e _).trans ?_
    by_cases here : e = d
    · rw [if_pos here, if_pos here, here]; rfl
    · rw [if_neg here, if_neg here]; rfl
  · rw [skips]; rfl
  · rw [skips, if_neg fun h => Bool.false_ne_true h.1.1]; rfl
  · simp only [skips]
    change s.rqh.notice = _
    cases s.rqh.notice <;> rfl

theorem NightAct.run_acted (s : State) (d : District) (a : NightAct) : s.Acted (fun e => if e = d then a else .keep) (a.run s d) := by
  cases a with
  | keep => simp only [ite_self]; exact State.Acted.refl s
  | assign x => exact s.setNightState_acted d x
  | skip n why => exact s.publishSkipped_acted d n why

/-! ## One after another, each district at most once -/

theorem NightAct.record_params (r : DistrictRecord) (a : NightAct) : (a.record r).params = r.params := by cases a <;> rfl

section
variable {s t u : State} {act next : District → NightAct}

theorem State.Acted.params (h : s.Acted act t) (e : District) : (t.district e).params = (s.district e).params := by
  rw [h.district, NightAct.record_params]

theorem State.Acted.role (h : s.Acted act t) (p : Position) : (t.station p).role = (s.station p).role := by rw [h.station]

theorem State.Acted.subscription (h : s.Acted act t) (p : Position) : (t.station p).subscription = (s.station p).subscription := by
  rw [h.station]

theorem State.Acted.kindMask (h : s.Acted act t) (p : Position) : (t.station p).kindMask = (s.station p).kindMask := by rw [h.station]

/-- A gap raises DATA_LOSS for an untouched district as it did before. -/
theorem State.Acted.gapRaises (h : s.Acted act t) {e : District} (kept : act e = .keep) : t.GapRaises e ↔ s.GapRaises e := by
  have watch : t.watch e = s.watch e := by rw [h.watch, kept]; rfl
  simp only [State.GapRaises, watch, h.params]

/-- Two rounds of acts that touch no district twice are one round. -/
theorem State.Acted.trans (first : s.Acted act t) (second : t.Acted next u) (disjoint : ∀ d, act d = .keep ∨ next d = .keep) :
    s.Acted (fun d => (act d).or (next d)) u := by
  refine ⟨?_, fun e => ?_, fun e => ?_, fun p => ?_, fun p e => ?_, ?_⟩
  · exact second.rest.trans (congrArg (fun x : State => { x with
      districts := u.districts, watches := u.watches, stations := u.stations, rqh := { x.rqh with notice := u.rqh.notice } }) first.rest)
  · rw [second.district, first.district]
    rcases disjoint e with kept | kept <;> rw [kept]
    · rfl
    · cases act e <;> rfl
  · rw [second.watch, first.watch, first.params]
    rcases disjoint e with kept | kept <;> rw [kept]
    · rfl
    · cases act e <;> rfl
  · refine (second.station p).trans ?_
    rw [first.station p]
  · rw [second.has, first.has, first.role, first.subscription, first.kindMask]
    rcases disjoint e with kept | kept
    · simp [first.gapRaises kept, kept, NightAct.or, NightAct.skips]
    · rw [kept]
      cases act e <;> simp [NightAct.or, NightAct.skips]
  · rw [second.notice, first.notice, Option.filter_filter]
    refine congrArg (fun q => s.rqh.notice.filter q) (funext fun x => ?_)
    rcases disjoint x.district with kept | kept
    · simp [first.gapRaises kept, kept, NightAct.or, NightAct.skips]
    · rw [kept]
      cases act x.district <;> simp [NightAct.or, NightAct.skips]

end

/-- A step that does to each district the act that the state before it gives, taken over a list without repeats: since no act touches what
decides another, the acts are those of the state at the start. -/
theorem State.foldl_acted {step : State → District → State} {act : State → District → NightAct}
    (run : ∀ s d, step s d = (act s d).run s d)
    (local_ : ∀ s t a e, s.Acted a t → a e = .keep → act t e = act s e)
    (l : List District) (hl : l.Nodup) (s : State) :
    s.Acted (fun d => if d ∈ l then act s d else .keep) (l.foldl step s) := by
  induction l generalizing s with
  | nil => simpa using State.Acted.refl s
  | cons d l ih =>
    obtain ⟨fresh, nodup⟩ := List.nodup_cons.1 hl
    have first : s.Acted (fun e => if e = d then act s d else .keep) (step s d) := run s d ▸ NightAct.run_acted s d (act s d)
    have rest := ih nodup (step s d)
    have whole := first.trans rest fun e => by
      by_cases here : e = d
      · exact .inr (if_neg (here ▸ fresh))
      · exact .inl (if_neg here)
    refine Eq.mp (congrArg (fun a => s.Acted a _) (funext fun e => ?_)) whole
    by_cases here : e = d
    · subst here
      rw [if_pos List.mem_cons_self, if_pos rfl, if_neg fresh]
      cases act s e <;> rfl
    · rw [if_neg here, local_ s (step s d) _ e first (if_neg here)]
      simp only [List.mem_cons, here, false_or, NightAct.or]

end Sys2Proof.Machine
end

section
/-!
PROOF. Window start: the night opened (R6) and the old night abandoned (R7), with the purge (R59, R60).
-/

namespace Sys2Proof.Machine

/-! ## The purge (R59, R60) -/

/-- A slot's purge in the manual's words: its held mean is the mean of what it filed, if it filed anything. -/
theorem Slot.purged_eq (sl : Slot) :
    sl.purged = { sl with
      heldMean := (let v := (sl.cells.1.filter (fun c => decide (c.state ≠ .empty))).map (·.volume)
                   if v = [] then sl.heldMean else some (v.sum / v.length))
      cells := Table.replicate 16 ⟨.empty, 0⟩ } := by
  unfold Slot.purged filledMean
  by_cases filed : filledVolumes sl.cells.1 = []
  · rw [if_pos filed]
    have same : (let v := (sl.cells.1.filter (fun c => decide (c.state ≠ .empty))).map (·.volume)
        if v = [] then sl.heldMean else some (v.sum / v.length)) = sl.heldMean := if_pos filed
    rw [same]; rfl
  · rw [if_neg filed]
    have same : (let v := (sl.cells.1.filter (fun c => decide (c.state ≠ .empty))).map (·.volume)
        if v = [] then sl.heldMean else some (v.sum / v.length)) = some ((filledVolumes sl.cells.1).sum / (filledVolumes sl.cells.1).length) :=
      if_neg filed
    rw [same]; rfl

theorem State.purge_slot (s : State) (i : SlotIndex) : s.purge.slot i = (s.slot i).purged := Table.get_map _ _ i

theorem State.purge_pressure (s : State) (d : District) (c : Fin 16) : (s.purge.pressure.get d).get c = none := by
  have row : s.purge.pressure.get d = emptyPressure := Table.get_replicate _ d
  rw [row]; exact Table.get_replicate _ c

/-! ## Districts that no meter serves (R6 action 3) -/

theorem State.enabledLinked_eq_nil_iff (s : State) (d : District) :
    s.enabledLinked d = [] ↔ ∀ i : SlotIndex, (s.slot i).enabled = true → ¬ (s.slot i).Names d := by
  unfold State.enabledLinked
  simp only [List.filter_eq_nil_iff, Table.mem_iff, Bool.and_eq_true, Slot.linkedTo_iff]
  constructor
  · intro none_linked i enabled names
    exact none_linked (s.slot i) ⟨i, rfl⟩ ⟨enabled, names⟩
  · rintro none_linked _ ⟨i, rfl⟩ ⟨enabled, names⟩
    exact none_linked i enabled names

/-- District `d` is in service with no enabled meter (R6). -/
abbrev State.NoMeters (s : State) (d : District) : Prop :=
  (s.district d).inService = true ∧ ∀ i : SlotIndex, (s.slot i).enabled = true → ¬ (s.slot i).Names d

theorem State.noMeters_purge (s : State) (d : District) : s.purge.NoMeters d ↔ s.NoMeters d := by
  simp only [State.NoMeters, State.purge_slot, State.purge_district]
  rfl

/-! ## The night opened -/

/-- What the opening of night `n` does to district `d` (R6 action 3). -/
def State.openingAct (n : Nat) (s : State) (d : District) : NightAct :=
  if (s.district d).inService = false then .assign .idle else if s.NoMeters d then .skip n .noMeters else .assign .opened

theorem State.assignNight_run (n : Nat) (s : State) (d : District) : s.assignNight n d = (s.openingAct n d).run s d := by
  unfold State.assignNight State.openingAct
  by_cases served : (s.district d).inService = true
  · have noMeters : s.NoMeters d ↔ s.enabledLinked d = [] := by simp [State.NoMeters, served, State.enabledLinked_eq_nil_iff]
    rw [if_pos served, if_neg fun out => Bool.noConfusion (served.symm.trans out)]
    by_cases none_linked : s.enabledLinked d = []
    · rw [if_neg (not_not.2 none_linked), if_pos (noMeters.2 none_linked)]; rfl
    · rw [if_pos none_linked, if_neg (mt noMeters.1 none_linked)]; rfl
  · rw [if_neg served, if_pos (Bool.eq_false_iff.2 served)]; rfl

theorem State.Acted.slots {act : District → NightAct} {s t : State} (h : s.Acted act t) : t.slots = s.slots := by rw [h.rest]

theorem State.Acted.noMeters {act : District → NightAct} {s t : State} (h : s.Acted act t) (d : District) :
    t.NoMeters d ↔ s.NoMeters d := by
  have slot : ∀ i, t.slot i = s.slot i := fun i => congrArg (Table.get · i) h.slots
  have served : (t.district d).inService = (s.district d).inService := by rw [h.district]; cases act d <;> rfl
  simp only [State.NoMeters, slot, served]

theorem State.assignNights_acted (n : Nat) (s : State) : s.Acted (s.openingAct n) (allDistricts.foldl (State.assignNight n) s) := by
  have acted := State.foldl_acted (State.assignNight_run n) (fun s t a e (h : s.Acted a t) _ => by
    have served : (t.district e).inService = (s.district e).inService := by rw [h.district]; cases a e <;> rfl
    simp only [State.openingAct, served, h.noMeters]) allDistricts nodup_allDistricts s
  simpa only [mem_allDistricts, if_true] using acted

theorem State.openingAct_skips (n : Nat) (s : State) (d : District) : (s.openingAct n d).skips = true ↔ s.NoMeters d := by
  unfold State.openingAct
  by_cases served : (s.district d).inService = true
  · rw [if_neg fun out => Bool.noConfusion (served.symm.trans out)]
    by_cases noMeters : s.NoMeters d
    · rw [if_pos noMeters]; exact iff_of_true rfl noMeters
    · rw [if_neg noMeters]; exact iff_of_false Bool.false_ne_true noMeters
  · rw [if_pos (Bool.eq_false_iff.2 served)]
    exact iff_of_false Bool.false_ne_true fun noMeters => served noMeters.1

/-- The districts, watches, stations and note of the night opened, over the purged grid. -/
def State.nightAssigned (n : Nat) (s : State) : State := allDistricts.foldl (State.assignNight n) s.purge

theorem State.nightAssigned_acted (n : Nat) (s : State) : s.purge.Acted (s.openingAct n) (s.nightAssigned n) := by
  have same : s.purge.openingAct n = s.openingAct n := by
    funext d; simp only [State.openingAct, State.noMeters_purge, State.purge_district]
  exact same ▸ State.assignNights_acted n s.purge

theorem State.openNight_eq (s : State) (n : Nat) : s.openNight n = { s with
    nck := { s.nck with phase := .collecting, nightDay := some n, nightMark := some (s.graceExpiryOf n) }
    slots := s.slots.map Slot.purged, pressure := Table.replicate 32 emptyPressure
    districts := (s.nightAssigned n).districts, watches := (s.nightAssigned n).watches
    stations := (s.nightAssigned n).stations, rqh := { s.rqh with notice := (s.nightAssigned n).rqh.notice } } := by
  have rest := (s.nightAssigned_acted n).rest
  have folded : allDistricts.foldl (State.assignNight n) s.purge = s.nightAssigned n := rfl
  unfold State.openNight
  rw [folded]
  generalize s.nightAssigned n = u at rest ⊢
  exact congrArg (fun x : State => { x with
    nck.phase := .collecting, nck.nightDay := some n, nck.nightMark := some (x.graceExpiryOf n) }) rest

/-- Settles O6: the acts of the opening, over the purged grid. -/
theorem windowStartOpensTheNight : Obligations.WindowStartOpensTheNight := by
  intro s n run phase here eligible noMeters raises
  have day : s.nck.clock.day = n := congrArg ClockTime.day here
  refine ⟨s.openNight n, ?_, ?_⟩
  · subst day; exact exec_windowStart_daytime run phase here eligible
  have acted := s.nightAssigned_acted n
  have raised : ∀ d, ((s.openingAct n d).skips = true ∧ s.purge.GapRaises d) ↔ raises d := fun d =>
    and_congr_left' (s.openingAct_skips n d)
  rw [s.openNight_eq n]
  generalize s.nightAssigned n = u at acted ⊢
  refine ⟨?_, fun i => ?_, fun d c => s.purge_pressure d c, fun d => ?_, fun d => ?_, fun p => ⟨acted.station p, fun d => ?_⟩⟩
  · rw [acted.notice]
    simp only [raised]
    rfl
  · exact (s.purge_slot i).trans (s.slot i).purged_eq
  · refine (acted.district d).trans ?_
    unfold State.openingAct
    by_cases out : (s.district d).inService = false
    · rw [if_pos out, if_pos out]; rfl
    · rw [if_neg out, if_neg out]
      by_cases unserved : s.NoMeters d
      · rw [if_pos unserved]; exact (if_pos unserved).symm
      · rw [if_neg unserved]; exact (if_neg unserved).symm
  · refine (acted.watch d).trans ?_
    by_cases unserved : s.NoMeters d
    · have kind : raises d ↔ s.GapRaises d := and_iff_right unserved
      rw [if_pos ((s.openingAct_skips n d).2 unserved), Watch.afterGap_eq]
      refine Eq.trans ?_ (if_pos unserved).symm
      simp only [kind]
      rfl
    · rw [if_neg (mt (s.openingAct_skips n d).1 unserved)]
      exact (if_neg unserved).symm
  · refine (acted.has p d).trans ?_
    simp only [raised]
    rfl

/-! ## The old night abandoned (R7, R93) -/

/-- District `d` is still to be closed when its night is abandoned: OPEN, QUEUED, or the one in flight (R7). -/
abbrev State.Dropped (s : State) (d : District) : Prop :=
  (s.district d).nightState = .opened ∨ (s.district d).nightState = .queued ∨ s.flight.map (·.district) = some d

/-- What the abandonment of night `m` does to a district by its night state (R7 action 2). -/
def State.waitingAct (m : Nat) (s : State) (d : District) : NightAct :=
  if (s.district d).nightState = .opened ∨ (s.district d).nightState = .queued then .skip m .abandoned else .keep

theorem State.abandonWaiting_run (m : Nat) (s : State) (d : District) : s.abandonWaiting m d = (s.waitingAct m d).run s d := by
  unfold State.abandonWaiting State.waitingAct
  generalize (s.district d).nightState = x
  cases x <;> rfl

/-- What the abandonment of night `m` does to district `d` (R7 actions 1 and 2). -/
def State.droppingAct (m : Nat) (s : State) (d : District) : NightAct := if s.Dropped d then .skip m .abandoned else .keep

/-- The districts, watches, stations and note of the night abandoned, with nothing in flight. -/
def State.nightDropped (m : Nat) (s : State) : State := allDistricts.foldl (State.abandonWaiting m) (s.abandonFlight m)

theorem State.abandonFlight_acted (s : State) (m : Nat) :
    State.Acted (fun e => if s.flight.map (·.district) = some e then .skip m .abandoned else .keep)
      { s with flight := none } (s.abandonFlight m) := by
  unfold State.abandonFlight
  rcases Option.eq_none_or_eq_some s.flight with idle | ⟨f, flying⟩
  · have same : { s with flight := none } = s := by rw [← idle]
    simp only [idle, Option.map_none, reduceCtorEq, if_false]
    exact same ▸ State.Acted.refl s
  · simp only [flying, Option.map_some, Option.some.injEq, eq_comm (a := f.district)]
    exact State.publishSkipped_acted { s with flight := none } f.district m .abandoned

theorem State.nightDropped_acted (m : Nat) (s : State) : State.Acted (s.droppingAct m) { s with flight := none } (s.nightDropped m) := by
  have flight := s.abandonFlight_acted m
  have waiting := State.foldl_acted (State.abandonWaiting_run m)
    (fun s t a e (h : s.Acted a t) (kept : a e = .keep) => by
      simp only [State.waitingAct, h.district, kept]; rfl) allDistricts nodup_allDistricts (s.abandonFlight m)
  simp only [mem_allDistricts, if_true] at waiting
  have record := flight.district
  have taken : ∀ e, s.flight.map (·.district) = some e → (s.abandonFlight m).waitingAct m e = .keep := fun e flown => by
    unfold State.waitingAct
    rw [record, if_pos flown]
    exact if_neg (by simp [NightAct.record])
  have whole := flight.trans waiting fun e => by
    by_cases flown : s.flight.map (·.district) = some e
    · exact .inr (taken e flown)
    · exact .inl (if_neg flown)
  refine Eq.mp (congrArg (fun a => State.Acted a _ _) (funext fun e => ?_)) whole
  unfold State.droppingAct State.Dropped
  by_cases flown : s.flight.map (·.district) = some e
  · rw [if_pos flown, if_pos (.inr (.inr flown)), taken e flown]; rfl
  · have same : (s.abandonFlight m).district e = s.district e := by rw [record, if_neg flown]; rfl
    rw [if_neg flown]
    simp only [NightAct.or, State.waitingAct, same, flown, or_false]

theorem State.abandonNight_raised {s : State} {m : Nat} (night_m : s.nck.nightDay.getD 0 = m) :
    s.abandonNight = State.raiseAll .nightClosed { s.nightDropped m with queue := [], choiceDue := false } := by
  have folded : allDistricts.foldl (State.abandonWaiting m) (s.abandonFlight m) = s.nightDropped m := rfl
  unfold State.abandonNight
  dsimp only
  rw [night_m, folded]

theorem State.abandonNight_eq {s : State} {m : Nat} (night : s.nck.nightDay.getD 0 = m) : s.abandonNight = { s with
    districts := (s.nightDropped m).districts, queue := [], flight := none, choiceDue := false, watches := (s.nightDropped m).watches
    stations := s.abandonNight.stations
    rqh := { notice := (s.nightDropped m).rqh.notice, events := s.noteAfterRaising (fun _ => 0x02#5) } } := by
  have acted := s.nightDropped_acted m
  have raised := State.abandonNight_raised night
  have events := State.raiseAll_events .nightClosed { s.nightDropped m with queue := [], choiceDue := false }
  have frame := State.raiseAll_frame .nightClosed { s.nightDropped m with queue := [], choiceDue := false }
  generalize s.nightDropped m = u at *
  rw [← raised] at events frame
  have note : State.noteAfterRaising { u with queue := [], choiceDue := false } (fun _ => EventFlag.nightClosed.mask) =
      s.noteAfterRaising (fun _ => 0x02#5) := by
    have kept : u.rqh.events = s.rqh.events := by rw [acted.rest]
    have role : ∀ p, (u.station p).role = (s.station p).role := acted.role
    unfold State.noteAfterRaising
    change u.rqh.events.map (fun n => if (u.station n.position).role ≠ none then _ else n) = _
    simp only [kept, role]
    rfl
  rw [note] at events
  generalize s.abandonNight = t at *
  rw [events] at frame
  exact frame.trans (congrArg (fun x : State => { x with
    queue := [], choiceDue := false, stations := t.stations
    rqh := { x.rqh with events := s.noteAfterRaising (fun _ => 0x02#5) } }) acted.rest)

theorem State.abandonNight_station {s : State} {m : Nat} (night : s.nck.nightDay.getD 0 = m) (p : Position) :
    s.abandonNight.station p = if (s.station p).role = none then (s.nightDropped m).station p
      else { (s.nightDropped m).station p with flags := (s.station p).flags ||| 0x02#5 } := by
  have acted := s.nightDropped_acted m
  have raised := State.abandonNight_raised night
  have station := State.raiseAll_station .nightClosed { s.nightDropped m with queue := [], choiceDue := false } p
  generalize s.nightDropped m = u at *
  rw [← raised] at station
  have flags : (u.station p).flags = (s.station p).flags := by rw [acted.station]; rfl
  have role : (u.station p).role = (s.station p).role := acted.role p
  rw [← role, ← flags]
  exact station

/-! ## Abandoned and opened at once (R7) -/

theorem exec_windowStart_closing {s : State} (run : s.running = true) (phase : s.nck.phase = .closing)
    (here : s.nck.clock = s.windowStartOf s.nck.clock.day) (fit : s.eligible s.nck.clock.day = true) :
    exec .windowStart s = .next (s.abandonNight.openNight s.nck.clock.day) := by
  have opened : s.reachWindowStart s.nck.clock.day = s.abandonNight.openNight s.nck.clock.day := by rw [State.reachWindowStart, phase]
  calc exec .windowStart s
    _ = .next (if s.running then (if s.nck.clock = s.windowStartOf s.nck.clock.day ∧ s.eligible s.nck.clock.day = true then
          s.reachWindowStart s.nck.clock.day else s) else s) := rfl
    _ = .next (s.abandonNight.openNight s.nck.clock.day) := by rw [if_pos run, if_pos ⟨here, fit⟩, opened]

/-- A watch after two gaps. -/
theorem Watch.afterGap_afterGap (gapLimit : Nat) (w : Watch) :
    (w.afterGap gapLimit).afterGap gapLimit = { w with
      gap := min 255 (w.gap + 2)
      alert := if (w.alert = .none ∨ w.alert = .cleared) ∧ gapLimit ≤ min 255 (w.gap + 2) then .dataLoss else w.alert } := by
  rw [Watch.afterGap_eq, Watch.afterGap_eq]
  dsimp only
  have gap : min 255 (min 255 (w.gap + 1) + 1) = min 255 (w.gap + 2) := by omega
  rw [gap]
  congr 1
  by_cases first : (w.alert = .none ∨ w.alert = .cleared) ∧ gapLimit ≤ min 255 (w.gap + 1)
  · have second : gapLimit ≤ min 255 (w.gap + 2) := by omega
    rw [if_pos first, if_neg (by simp), if_pos ⟨first.1, second⟩]
  · rw [if_neg first]

section
variable (old new : Prop) [Decidable old] [Decidable new]

/-- How many SKIPPED results a district receives from the old night and from the new one. -/
def skipCount : Nat := (if old then 1 else 0) + (if new then 1 else 0)

/-- A watch after a gap in the old night and a gap in the new one, each of them or not. -/
theorem Watch.after_skips (gapLimit : Nat) (w : Watch) :
    (if new then (if old then w.afterGap gapLimit else w).afterGap gapLimit else if old then w.afterGap gapLimit else w) =
      if skipCount old new = 0 then w else { w with
        gap := min 255 (w.gap + skipCount old new)
        alert := if 0 < skipCount old new ∧ (w.alert = .none ∨ w.alert = .cleared) ∧ gapLimit ≤ min 255 (w.gap + skipCount old new) then .dataLoss
                 else w.alert } := by
  unfold skipCount
  by_cases o : old <;> by_cases n : new
  · simp [o, n, Watch.afterGap_afterGap]
  · simp [o, n, Watch.afterGap_eq]
  · simp [o, n, Watch.afterGap_eq]
  · simp [o, n]

/-- DATA_LOSS is raised by the gap of the old night or by that of the new one. -/
theorem Watch.skips_raise_iff (gapLimit : Nat) (w : Watch) :
    (0 < skipCount old new ∧ (w.alert = .none ∨ w.alert = .cleared) ∧ gapLimit ≤ min 255 (w.gap + skipCount old new)) ↔
      (old ∧ (w.alert = .none ∨ w.alert = .cleared) ∧ gapLimit ≤ min 255 (w.gap + 1)) ∨
      (new ∧ let v := if old then w.afterGap gapLimit else w
             (v.alert = .none ∨ v.alert = .cleared) ∧ gapLimit ≤ min 255 (v.gap + 1)) := by
  unfold skipCount
  by_cases o : old <;> by_cases n : new
  · simp only [o, n, if_true, true_and, Watch.afterGap_eq]
    by_cases first : (w.alert = .none ∨ w.alert = .cleared) ∧ gapLimit ≤ min 255 (w.gap + 1)
    · rw [if_pos first]
      exact iff_of_true ⟨by omega, first.1, by omega⟩ (.inl first)
    · rw [if_neg first]
      constructor
      · rintro ⟨-, calm, limit⟩
        exact .inr ⟨calm, by omega⟩
      · rintro (raised | ⟨calm, limit⟩)
        · exact absurd raised first
        · exact ⟨by omega, calm, by omega⟩
  · simp [o, n]
  · simp [o, n]
  · simp [o, n]

end

theorem State.droppingAct_skips (m : Nat) (s : State) (d : District) : (s.droppingAct m d).skips = true ↔ s.Dropped d := by
  unfold State.droppingAct
  by_cases dropped : s.Dropped d
  · rw [if_pos dropped]; exact iff_of_true rfl dropped
  · rw [if_neg dropped]; exact iff_of_false Bool.false_ne_true dropped

theorem State.droppingAct_record (s : State) (m : Nat) (d : District) :
    (s.droppingAct m d).record (s.district d) = { s.district d with
      nightState := if s.Dropped d then .skipped else (s.district d).nightState
      result := if s.Dropped d then some (skippedResult m .abandoned) else (s.district d).result } := by
  unfold State.droppingAct
  by_cases dropped : s.Dropped d
  · simp only [if_pos dropped]; rfl
  · simp only [if_neg dropped]; rfl

/-- The record of a district after the abandonment of night `m` and the opening of night `n`. -/
theorem State.reopened_record (s : State) (m n : Nat) (d : District) :
    (if (s.district d).inService = false then NightAct.assign .idle else if s.NoMeters d then .skip n .noMeters else .assign .opened).record
        ((s.droppingAct m d).record (s.district d)) =
      { s.district d with
        nightState := if (s.district d).inService = false then .idle else if s.NoMeters d then .skipped else .opened
        result := if s.NoMeters d then some (skippedResult n .noMeters)
                  else if s.Dropped d then some (skippedResult m .abandoned) else (s.district d).result } := by
  rw [State.droppingAct_record]
  by_cases out : (s.district d).inService = false
  · have never : ¬ s.NoMeters d := fun h => Bool.false_ne_true (out.symm.trans h.1)
    simp only [if_pos out, if_neg never]; rfl
  · by_cases unserved : s.NoMeters d
    · simp only [if_neg out, if_pos unserved]; rfl
    · simp only [if_neg out, if_neg unserved]; rfl

/-- Two chances of one value are one chance. -/
theorem ite_ite_same_eq_or {α : Type} (p q c : Prop) [Decidable p] [Decidable q] [Decidable c] (x y : α) :
    (if q ∧ c then x else if p ∧ c then x else y) = if (p ∨ q) ∧ c then x else y := by
  by_cases taken : c
  · by_cases first : p <;> simp [first, taken]
  · simp [taken]

/-- Settles O7: the acts of the abandonment, then those of the opening. -/
theorem windowStartAbandonsTheOldNight : Obligations.WindowStartAbandonsTheOldNight := by
  intro s m n run phase night here eligible noMeters dropped skips raises
  have day : s.nck.clock.day = n := congrArg ClockTime.day here
  refine ⟨s.abandonNight.openNight n, ?_, ?_⟩
  · subst day; exact exec_windowStart_closing run phase here eligible
  have drop := s.nightDropped_acted m
  have getD : s.nck.nightDay.getD 0 = m := by rw [night]; rfl
  have frame := State.abandonNight_eq getD
  have station := State.abandonNight_station getD
  have opened := State.openNight_eq s.abandonNight n
  have acted := s.abandonNight.nightAssigned_acted n
  generalize s.nightDropped m = u at *
  generalize s.abandonNight = a at *
  generalize a.nightAssigned n = v at *
  rw [opened]
  have slot : ∀ i, a.slot i = s.slot i := fun i => by
    have slots : a.slots = s.slots := by rw [frame]
    exact congrArg (Table.get · i) slots
  have district : ∀ d, a.district d = u.district d := fun d => by
    have districts : a.districts = u.districts := by rw [frame]
    exact congrArg (Table.get · d) districts
  have watch : ∀ d, a.watch d = u.watch d := fun d => by
    have watches : a.watches = u.watches := by rw [frame]
    exact congrArg (Table.get · d) watches
  have served : ∀ d, (a.district d).inService = (s.district d).inService := fun d => by
    rw [district, drop.district]; cases s.droppingAct m d <;> rfl
  have params : ∀ d, (a.district d).params = (s.district d).params := fun d => by
    rw [district]; exact drop.params d
  have unserved : ∀ d, a.NoMeters d ↔ s.NoMeters d := fun d => by simp only [State.NoMeters, slot, served]
  have first : ∀ d, a.watch d = if s.Dropped d then (s.watch d).afterGap (s.district d).params.gapLimit else s.watch d := fun d => by
    rw [watch, drop.watch]
    simp only [s.droppingAct_skips m d]
    rfl
  have raised : ∀ d, raises d ↔ (s.Dropped d ∧ s.GapRaises d) ∨ (s.NoMeters d ∧ a.GapRaises d) := by
    intro d
    simp only [State.GapRaises, first, params]
    exact Watch.skips_raise_iff (s.Dropped d) (s.NoMeters d) _ _
  have notice : v.rqh.notice = s.rqh.notice.filter (fun x => decide (¬ raises x.district)) := by
    have kept : a.rqh.notice = u.rqh.notice := by rw [frame]
    have before : a.purge.rqh.notice = s.rqh.notice.filter (fun x => decide ¬ (s.Dropped x.district ∧ s.GapRaises x.district)) := by
      refine kept.trans (drop.notice.trans ?_)
      simp only [s.droppingAct_skips m]
      rfl
    rw [acted.notice, before, Option.filter_filter]
    refine congrArg (fun q => s.rqh.notice.filter q) (funext fun x => ?_)
    have purged : a.purge.GapRaises x.district ↔ a.GapRaises x.district := Iff.rfl
    simp only [a.openingAct_skips n, unserved, purged, raised, not_or, Bool.decide_and]
  refine ⟨?_, fun i => ?_, fun d c => a.purge_pressure d c, fun d => ?_, fun d => ?_, fun p => ⟨?_, fun d => ?_⟩⟩
  · rw [notice]
    exact congrArg (fun x : State => { x with
      nck.phase := .collecting, nck.nightDay := some n, nck.nightMark := some (x.graceExpiryOf n)
      slots := a.slots.map Slot.purged, pressure := Table.replicate 32 emptyPressure
      districts := v.districts, watches := v.watches, stations := v.stations
      rqh := { x.rqh with notice := s.rqh.notice.filter (fun x => decide (¬ raises x.district)) } }) frame
  · exact (a.purge_slot i).trans (slot i ▸ (s.slot i).purged_eq)
  · refine (acted.district d).trans ?_
    have record : a.purge.district d = (s.droppingAct m d).record (s.district d) := (district d).trans (drop.district d)
    rw [record]
    simp only [State.openingAct, unserved, served]
    exact s.reopened_record m n d
  · refine (acted.watch d).trans ?_
    have was : a.purge.watch d = _ := first d
    have limit : (a.purge.district d).params = (s.district d).params := params d
    simp only [a.openingAct_skips n, unserved, was, limit]
    exact Watch.after_skips (s.Dropped d) (s.NoMeters d) _ _
  · refine (acted.station p).trans ?_
    change ({ a.station p with pendingSet := (v.station p).pendingSet } : Station) = _
    rw [station p, drop.station p]
    by_cases free : (s.station p).role = none
    · rw [if_pos free, if_pos free]; rfl
    · rw [if_neg free, if_neg free]; rfl
  · have held : ∀ (x : District), (a.station p).pendingSet.has x = (u.station p).pendingSet.has x := fun x => by
      rw [station p]; split <;> rfl
    have entry : (a.station p).role = (s.station p).role ∧ (a.station p).subscription = (s.station p).subscription ∧
        (a.station p).kindMask = (s.station p).kindMask := by
      rw [station p]; split <;> exact ⟨drop.role p, drop.subscription p, drop.kindMask p⟩
    refine (acted.has p d).trans ?_
    change (if (_ ∧ a.GapRaises d) ∧ (a.station p).role ≠ none ∧ (a.station p).subscription.has d = true then (a.station p).kindMask.getLsbD 2
      else (a.station p).pendingSet.has d) = _
    rw [held, drop.has]
    have dropRaises : State.GapRaises { s with flight := none } d ↔ s.GapRaises d := Iff.rfl
    simp only [a.openingAct_skips n, unserved, entry, s.droppingAct_skips m, raised, dropRaises]
    exact ite_ite_same_eq_or _ _ _ _ _

end Sys2Proof.Machine
end

section
/-!
PROOF. RESTART ENGINE (R17, R94).
-/

namespace Sys2Proof.Machine

/-! ## A flag raised at a list of positions, any of them more than once -/

theorem State.raiseList_station (f : EventFlag) (l : List Position) (s : State) (q : Position) :
    (l.foldl (State.raiseAt f) s).station q =
      if q ∈ l ∧ (s.station q).role ≠ none then { s.station q with flags := (s.station q).flags ||| f.mask } else s.station q := by
  induction l generalizing s with
  | nil => simp
  | cons p l ih =>
    rw [List.foldl_cons, ih, State.raiseAt_role, State.raiseAt_station]
    by_cases here : q = p
    · subst here
      by_cases again : q ∈ l <;> by_cases free : (s.station q).role = none <;>
        simp [again, free, Station.occupied, Option.isSome_iff_ne_none, BitVec.or_assoc]
    · simp [here]

theorem and_all_flags : ∀ x : BitVec 5, x &&& 31#5 = x := by decide

theorem State.raiseList_note (f : EventFlag) (l : List Position) (s : State) :
    (l.foldl (State.raiseAt f) s).rqh.events = s.noteAfterRaising (fun q => if q ∈ l then f.mask else 0#5) := by
  induction l generalizing s with
  | nil => simp [State.noteAfterRaising, and_all_flags]
  | cons p l ih =>
    rw [List.foldl_cons, ih, State.noteAfterRaising, State.raiseAt_note, State.noteAfterRaising, Option.map_map, State.noteAfterRaising]
    congr 1
    funext n
    by_cases free : (s.station n.position).role = none
    · simp [free, State.raiseAt_role]
    · by_cases here : n.position = p
      · obtain rfl := here
        by_cases again : n.position ∈ l <;> simp [free, again, State.raiseAt_role, BitVec.and_assoc, and_all_flags]
      · by_cases again : n.position ∈ l <;> simp [free, here, again, State.raiseAt_role, and_all_flags]

/-! ## The holders told (R17) -/

/-- The holders of the edit holds, in order of district. -/
def State.holders (s : State) : List Position := allDistricts.filterMap (fun d => (s.district d).hold.map (·.holder))

theorem State.mem_holders (s : State) (q : Position) : q ∈ s.holders ↔ ∃ d : District, (s.district d).hold.map (·.holder) = some q := by
  simp [State.holders, mem_allDistricts]

theorem State.flagHolders_eq (l : List District) (s : State) :
    l.foldl State.flagHolder s =
      (l.filterMap (fun d => (s.district d).hold.map (·.holder))).foldl (State.raiseAt .holdEnded) s := by
  induction l generalizing s with
  | nil => rfl
  | cons d l ih =>
    have kept : ∀ e, (s.flagHolder d).district e = s.district e := fun e => by
      unfold State.flagHolder
      split
      · rw [State.raiseAt_frame]; rfl
      · rfl
    rw [List.foldl_cons, ih]
    simp only [kept]
    rcases Option.eq_none_or_eq_some (s.district d).hold with free | ⟨h, held⟩
    · have same : s.flagHolder d = s := by rw [State.flagHolder, free]
      rw [same, List.filterMap_cons_none (by rw [free]; rfl)]
    · have raised : s.flagHolder d = s.raiseAt .holdEnded h.holder := by rw [State.flagHolder, held]
      rw [raised, List.filterMap_cons_some (b := h.holder) (by rw [held]; rfl), List.foldl_cons]

/-- The part with its holders told, over the purged grid, with nothing in flight and nothing queued. -/
def State.holdersTold (s : State) : State :=
  s.holders.foldl (State.raiseAt .holdEnded) (State.purge { s with flight := none, queue := [], choiceDue := false })

theorem State.restart_eq (s : State) : s.restart = { s with
    nck.phase := if s.nck.clockSet then .daytime else .stopped
    slots := s.slots.map Slot.purged, pressure := Table.replicate 32 emptyPressure
    districts := s.districts.map (fun r => { r with nightState := .idle, hold := none })
    queue := [], flight := none, choiceDue := false, stations := s.holdersTold.stations
    rqh.events := s.noteAfterRaising (fun q => if ∃ d : District, (s.district d).hold.map (·.holder) = some q then 0x04#5 else 0#5) } := by
  have told : allDistricts.foldl State.flagHolder (State.purge { s with flight := none, queue := [], choiceDue := false }) = s.holdersTold :=
    State.flagHolders_eq _ _
  have note : s.holdersTold.rqh.events =
      s.noteAfterRaising (fun q => if ∃ d : District, (s.district d).hold.map (·.holder) = some q then 0x04#5 else 0#5) := by
    refine (State.raiseList_note _ _ _).trans ?_
    simp only [State.mem_holders]
    rfl
  have frame : s.holdersTold = { State.purge { s with flight := none, queue := [], choiceDue := false } with
      stations := s.holdersTold.stations, rqh.events := s.holdersTold.rqh.events } := State.raiseEach_frame _ _ _
  unfold State.restart
  dsimp only
  rw [told, ← note]
  generalize s.holdersTold = u at *
  exact congrArg (fun x : State => { x with
    districts := x.districts.map (fun r : DistrictRecord => { r with nightState := .idle, hold := none })
    nck.phase := if s.nck.clockSet then .daytime else .stopped }) frame

theorem State.restart_district (s : State) (d : District) :
    s.restart.district d = { s.district d with nightState := .idle, hold := none } := by
  rw [State.restart_eq]; exact Table.get_map _ _ d

theorem State.restart_station (s : State) (q : Position) :
    s.restart.station q =
      if (s.station q).role ≠ none ∧ ∃ d : District, (s.district d).hold.map (·.holder) = some q then
        { s.station q with flags := (s.station q).flags ||| 0x04#5 } else s.station q := by
  have told : s.restart.stations = s.holdersTold.stations := by rw [State.restart_eq]
  refine (congrArg (Table.get · q) told).trans ?_
  refine (State.raiseList_station _ _ _ q).trans ?_
  simp only [State.mem_holders, and_comm (a := ∃ d : District, _)]
  rfl

/-- Settles O40: the restart's own effect, and the answer that follows it. -/
theorem restartKeepsWhatItDoesNotName : Obligations.RestartKeepsWhatItDoesNotName := by
  intro s p asks
  have judged := asks.exec_request (i := .restartEngine []) rfl rfl (by simp) ((mayRequest_iff _ _).2 (.inl rfl))
  have rule : handle .restartEngine s p [] = accept s.restart [] := by
    change restartEngine s p [] = _
    rw [restartEngine, if_neg (not_not.2 rfl)]
  rw [rule, answeredWith_accept] at judged
  have effect := s.restart_eq
  have district := s.restart_district
  have station := s.restart_station
  generalize s.holdersTold.stations = table at effect
  generalize s.restart = u at *
  have slots := congrArg State.slots effect
  have pressure := congrArg State.pressure effect
  have districts := congrArg State.districts effect
  have stations := congrArg State.stations effect
  dsimp only at slots pressure districts stations
  refine ⟨_, judged, ?_, fun i => ?_, fun d c => ?_, district, station⟩
  · have restated : u = { s with
        nck.phase := if s.nck.clockSet then .daytime else .stopped
        slots := u.slots, pressure := u.pressure, districts := u.districts, queue := [], flight := none, choiceDue := false
        stations := u.stations
        rqh.events := s.noteAfterRaising (fun q =>
          if ∃ d : District, (s.district d).hold.map (·.holder) = some q then 0x04#5 else 0#5) } := by
      rw [slots, pressure, districts, stations]
      exact effect
    exact congrArg (fun x : State => x.answered .restartEngine [] .ok []) restated
  · exact (congrArg (Table.get · i) slots).trans ((s.purge_slot i).trans (s.slot i).purged_eq)
  · exact (congrArg (fun t => (Table.get t d).get c) pressure).trans (s.purge_pressure d c)

end Sys2Proof.Machine
end

section
/-!
PROOF. Window end (R8, R9, R10, R54).
-/

namespace Sys2Proof.Machine

/-- WINDOW_END, the clock standing at the window end of the current night, is the event of that boundary. -/
theorem exec_windowEnd_at {s : State} {n : Nat} (run : s.running = true) (night : s.nck.nightDay = some n)
    (clock : s.nck.clock = s.windowEndOf n) : exec .windowEnd s = .next s.reachWindowEnd := by
  have here : s.atBoundary State.windowEndOf = true := by simp [State.atBoundary, night, clock]
  calc exec .windowEnd s = .next (if s.running then (if s.atBoundary State.windowEndOf then s.reachWindowEnd else s) else s) := rfl
    _ = .next s.reachWindowEnd := by rw [if_pos run, if_pos here]

/-- SETTLING, with the complete districts queued: what the night-end test of a window end meets. -/
def State.completeQueued (s : State) : State :=
  { s with nck.phase := .settling }.enqueueEach .complete (s.completeAmong allDistricts)

theorem State.completeQueued_eq (s : State) :
    s.completeQueued = { s with
      nck.phase := .settling, districts := s.completeQueued.districts
      queue := s.queue ++ (s.completeAmong allDistricts).map (fun d => ⟨d, .complete⟩)
      choiceDue := s.choiceDue || decide (s.completeAmong allDistricts ≠ [] ∧ s.flight = none) } := by
  unfold State.completeQueued; rw [State.enqueueEach_eq]

theorem State.completeQueued_district (s : State) (d : District) :
    s.completeQueued.district d =
      if (s.district d).nightState = .opened ∧ s.IsComplete d then { s.district d with nightState := .queued } else s.district d := by
  have same : State.district { s with nck.phase := .settling } d = s.district d := rfl
  rw [State.completeQueued, State.district_enqueueEach, same]
  simp [State.completeAmong, mem_allDistricts]

/-- The districts still OPEN once the complete ones are queued. -/
theorem State.completeQueued_openAmong (s : State) :
    s.completeQueued.openAmong allDistricts =
      allDistricts.filter (fun d => decide ((s.district d).nightState = .opened ∧ ¬ s.IsComplete d)) := by
  refine List.filter_congr fun d _ => ?_
  rw [State.completeQueued_district, decide_eq_decide]
  by_cases joins : (s.district d).nightState = .opened ∧ s.IsComplete d
  · rw [if_pos joins]
    exact iff_of_false (by simp) fun stays => stays.2 joins.2
  · rw [if_neg joins]
    exact ⟨fun opened => ⟨opened, fun complete => joins ⟨opened, complete⟩⟩, And.left⟩

theorem State.openAmong_eq_nil {s : State} (closed : ¬ ∃ d : District, s.Unclosed d) : s.openAmong allDistricts = [] :=
  List.filter_eq_nil_iff.2 fun d _ opened => closed ⟨d, .inl (of_decide_eq_true opened)⟩

/-- With nothing left to close, a grace expiry in SETTLING does no more than the night-end test. -/
theorem State.closeByGrace_of_closed {s : State} (settling : s.nck.phase = .settling) (closed : ¬ ∃ d : District, s.Unclosed d) :
    s.closeByGrace = s.nightEndTest := by
  have idle : s.graceQueued = { s with nck.phase := .closing } := by
    rw [State.graceQueued, State.openAmong_eq_nil closed]; rfl
  have stays : ¬ ∃ d : District, State.Unclosed { s with nck.phase := .closing } d := closed
  rw [State.closeByGrace_eq, idle, State.nightEndTest_cases _ (.inr rfl), State.nightEndTest_cases s (.inl settling), if_neg closed,
    if_neg stays]

/-- A window end in COLLECTING is the completion checks and the night-end test; with GRACE 0 the grace expiry takes the test's place. -/
theorem State.reachWindowEnd_eq {s : State} (collecting : s.nck.phase = .collecting) :
    s.reachWindowEnd = if s.nck.grace = 0 then s.completeQueued.closeByGrace else s.completeQueued.nightEndTest := by
  have checked : allDistricts.foldl State.completionCheck { s with nck.phase := .settling } = s.completeQueued :=
    State.completionChecks_eq _ nodup_allDistricts _
  have settling : s.completeQueued.nck.phase = .settling := by rw [State.completeQueued_eq]
  unfold State.reachWindowEnd
  rw [if_pos collecting, checked]
  dsimp only
  by_cases grace : s.nck.grace = 0
  · rw [if_pos grace, if_pos grace]
    by_cases left : ∃ d : District, s.completeQueued.Unclosed d
    · rw [State.nightEndTest_cases _ (.inl settling), if_pos left, State.reachGraceExpiry, if_pos settling]
    · rw [State.closeByGrace_of_closed settling left, State.reachGraceExpiry, if_neg]
      rw [State.nightEndTest_eq _ (.inl settling), if_neg left]
      exact Phase.noConfusion
  · rw [if_neg grace, if_neg grace]

theorem append_ne_nil_and {α : Type} (a b : List α) (c : Prop) : (a ≠ [] ∧ c) ∨ (b ≠ [] ∧ c) ↔ a ++ b ≠ [] ∧ c := by
  simp only [ne_eq, List.append_eq_nil_iff]
  tauto

/-- Settles O8: the boundary is taken in COLLECTING only (R5), and there it is the completion checks with the night-end test, or with the
grace expiry. -/
theorem windowEndQueuesCompleteDistricts : Obligations.WindowEndQueuesCompleteDistricts := by
  intro s n run night clock joins waits late
  rw [exec_windowEnd_at run night clock]
  refine ⟨fun other => by rw [State.reachWindowEnd, if_neg other], fun collecting => ?_⟩
  rw [State.reachWindowEnd_eq collecting]
  have effect := s.completeQueued_eq
  have record := s.completeQueued_district
  have openAmong := s.completeQueued_openAmong
  have joined : s.completeAmong allDistricts = joins := rfl
  generalize s.completeQueued = u at *
  rw [joined] at effect
  have mem_joins : ∀ d, d ∈ joins ↔ (s.district d).nightState = .opened ∧ s.IsComplete d := fun d => by
    simp [joins, mem_allDistricts]
  have settling : u.nck.phase = .settling := by rw [effect]
  have entry : ∀ p, u.station p = s.station p := fun p => by rw [effect]; rfl
  by_cases grace : s.nck.grace = 0
  · have late_eq : late = waits := if_pos grace
    have mem_waits : ∀ d, d ∈ waits ↔ (s.district d).nightState = .opened ∧ ¬ s.IsComplete d := fun d => by
      simp [waits, mem_allDistricts]
    have closing := u.closeByGrace_effect
    have district := u.closeByGrace_district
    have station := u.closeByGrace_station
    rw [openAmong] at closing
    rw [if_pos grace, late_eq]
    have prompted : ((s.choiceDue || decide (joins ≠ [] ∧ s.flight = none)) || decide (waits ≠ [] ∧ s.flight = none)) =
        (s.choiceDue || decide (joins ++ waits ≠ [] ∧ s.flight = none)) := by
      rw [Bool.or_assoc, ← Bool.decide_or]
      exact congrArg (s.choiceDue || ·) (decide_eq_decide.2 (append_ne_nil_and joins waits _))
    generalize u.closeByGrace = t at *
    refine ⟨t, rfl, ?_, fun d => ?_, fun p => ?_⟩
    · rw [if_pos grace, ← prompted]
      exact closing.trans (congrArg (fun x : State => { x with
        nck.phase := if ∃ d : District, t.Unclosed d then .closing else .daytime
        districts := t.districts, queue := x.queue ++ waits.map (fun d => (⟨d, .grace⟩ : QueueEntry))
        choiceDue := x.choiceDue || decide (waits ≠ [] ∧ x.flight = none), stations := t.stations
        rqh.events := if ∃ d : District, t.Unclosed d then x.rqh.events else x.noteAfterRaising (fun _ => 0x02#5) }) effect)
    · have queued := record d
      rw [district d]
      by_cases opened : (s.district d).nightState = .opened
      · by_cases complete : s.IsComplete d
        · rw [if_pos ⟨opened, complete⟩] at queued
          rw [queued, if_neg (by simp)]
          exact (if_pos (.inl ((mem_joins d).2 ⟨opened, complete⟩))).symm
        · rw [if_neg fun h => complete h.2] at queued
          rw [queued, if_pos opened]
          exact (if_pos (.inr ((mem_waits d).2 ⟨opened, complete⟩))).symm
      · rw [if_neg fun h => opened h.1] at queued
        rw [queued, if_neg opened]
        refine (if_neg ?_).symm
        rintro (joined | waiting)
        · exact opened ((mem_joins d).1 joined).1
        · exact opened ((mem_waits d).1 waiting).1
    · rw [station, entry]
  · have late_eq : late = [] := if_neg grace
    have closing := State.nightEndTest_eq u (.inl settling)
    have district := u.nightEndTest_district
    have station := State.nightEndTest_station u (.inl settling)
    have unclosed : ∀ d, u.nightEndTest.Unclosed d ↔ u.Unclosed d := fun d => by rw [State.Unclosed, district]
    rw [if_neg grace, late_eq]
    simp only [← unclosed] at closing station
    generalize u.nightEndTest = t at *
    refine ⟨t, rfl, ?_, fun d => ?_, fun p => ?_⟩
    · rw [if_neg grace, List.append_nil, List.map_nil, List.append_nil]
      have districts := congrArg State.districts closing
      dsimp only at districts
      rw [settling] at closing
      rw [districts]
      exact closing.trans (congrArg (fun x : State => { x with
        nck.phase := if ∃ d : District, t.Unclosed d then .settling else .daytime, districts := u.districts
        stations := t.stations
        rqh.events := if ∃ d : District, t.Unclosed d then x.rqh.events else x.noteAfterRaising (fun _ => 0x02#5) }) effect)
    · simp only [district, record, mem_joins, List.not_mem_nil, or_false]
    · rw [station, entry]

end Sys2Proof.Machine
end

section
/-!
PROOF. Clock times in order, and the agenda of a span taken in order of time (R1, R2, R12, R18).
-/

namespace Sys2Proof.Machine

/-! ## Clock times in order (R1) -/

/-- A clock time is what R1 lets it be: its minute is at most 1,439. -/
abbrev ClockTime.Proper (t : ClockTime) : Prop := t.minute ≤ 1439

theorem ClockTime.before_iff {a b : ClockTime} (ha : a.Proper) (hb : b.Proper) : ClockTime.Before a b ↔ a.total < b.total := by
  unfold ClockTime.Before ClockTime.total ClockTime.Proper at *; omega

theorem ClockTime.notAfter_iff {a b : ClockTime} (ha : a.Proper) (hb : b.Proper) : ClockTime.NotAfter a b ↔ a.total ≤ b.total := by
  unfold ClockTime.NotAfter ClockTime.total ClockTime.Proper at *; omega

theorem ClockTime.eq_of_total {a b : ClockTime} (ha : a.Proper) (hb : b.Proper) (h : a.total = b.total) : a = b := by
  obtain ⟨da, ma⟩ := a
  obtain ⟨db, mb⟩ := b
  simp only [ClockTime.total, ClockTime.Proper] at *
  have : da = db := by omega
  have : ma = mb := by omega
  simp_all

theorem ClockTime.plus_proper (t : ClockTime) (m : Nat) : (t.plus m).Proper := by
  unfold ClockTime.plus ClockTime.Proper; dsimp only; omega

theorem ClockTime.plus_total (t : ClockTime) (m : Nat) : (t.plus m).total = t.total + m := by
  unfold ClockTime.plus ClockTime.total; dsimp only; omega

theorem ClockTime.notAfter_total (a b : ClockTime) : ClockTime.NotAfter a b ∨ ClockTime.NotAfter b a := by
  unfold ClockTime.NotAfter; omega

theorem ClockTime.notAfter_refl (a : ClockTime) : ClockTime.NotAfter a a := by unfold ClockTime.NotAfter; omega

theorem ClockTime.notAfter_trans {a b c : ClockTime} (h : ClockTime.NotAfter a b) (k : ClockTime.NotAfter b c) : ClockTime.NotAfter a c := by
  unfold ClockTime.NotAfter at *; omega

theorem ClockTime.not_notAfter {a b : ClockTime} : ¬ ClockTime.NotAfter a b ↔ ClockTime.Before b a := by
  unfold ClockTime.NotAfter ClockTime.Before; omega

/-! ## Boundary times (R4) -/

/-- The ranges of the window settings (R1). -/
abbrev State.WindowFits (s : State) : Prop :=
  s.nck.wstart ≤ 95 ∧ 4 ≤ s.nck.wlen ∧ s.nck.wlen ≤ 16 ∧ s.nck.grace ≤ 48 ∧ s.nck.wstart + s.nck.wlen ≤ 96

theorem State.windowStartOf_total (s : State) (n : Nat) : (s.windowStartOf n).total = 1440 * n + 15 * s.nck.wstart := by
  unfold State.windowStartOf ClockTime.total; dsimp only; omega

theorem State.windowEndOf_total (s : State) (n : Nat) : (s.windowEndOf n).total = 1440 * n + 15 * s.nck.wstart + 15 * s.nck.wlen := by
  rw [State.windowEndOf, ClockTime.plus_total, State.windowStartOf_total]

theorem State.graceExpiryOf_total (s : State) (n : Nat) :
    (s.graceExpiryOf n).total = 1440 * n + 15 * s.nck.wstart + 15 * s.nck.wlen + 15 * s.nck.grace := by
  rw [State.graceExpiryOf, ClockTime.plus_total, State.windowEndOf_total]

theorem State.windowStartOf_proper {s : State} (fits : s.WindowFits) (n : Nat) : (s.windowStartOf n).Proper := by
  unfold State.windowStartOf ClockTime.Proper; dsimp only; omega

theorem State.windowEndOf_proper (s : State) (n : Nat) : (s.windowEndOf n).Proper := ClockTime.plus_proper _ _

theorem State.graceExpiryOf_proper (s : State) (n : Nat) : (s.graceExpiryOf n).Proper := ClockTime.plus_proper _ _

/-! ## The next night of a span (R12 point 2) -/

theorem inSpan_iff (t0 t1 t : ClockTime) : inSpan t0 t1 t = true ↔ ClockTime.Before t0 t ∧ ClockTime.NotAfter t t1 := by
  simp [inSpan]

/-- Night `n`'s window start falls in the span and is eligible (R12). -/
abbrev State.StartsIn (s : State) (t0 t1 : ClockTime) (n : Nat) : Prop :=
  ClockTime.Before t0 (s.windowStartOf n) ∧ ClockTime.NotAfter (s.windowStartOf n) t1 ∧ s.eligible n = true

theorem State.startsIn_iff (s : State) (t0 t1 : ClockTime) (n : Nat) :
    (inSpan t0 t1 (s.windowStartOf n) && s.eligible n) = true ↔ s.StartsIn t0 t1 n := by
  rw [Bool.and_eq_true, inSpan_iff, and_assoc]

/-- The search finds the latest night that starts in the span. -/
theorem State.latestStart_eq_some {s : State} {t0 t1 : ClockTime} {n m : Nat} (found : s.latestStart t0 t1 n = some m) :
    s.StartsIn t0 t1 m ∧ ∀ k ≤ n, s.StartsIn t0 t1 k → k ≤ m := by
  induction n with
  | zero =>
    rw [State.latestStart] at found
    split at found
    next starts =>
      cases found
      exact ⟨(s.startsIn_iff t0 t1 0).1 starts, fun k le _ => le⟩
    next => cases found
  | succ n ih =>
    rw [State.latestStart] at found
    split at found
    next =>
      split at found
      next starts =>
        cases found
        exact ⟨(s.startsIn_iff t0 t1 (n + 1)).1 starts, fun k le _ => le⟩
      next not =>
        obtain ⟨starts, latest⟩ := ih found
        refine ⟨starts, fun k le startsK => ?_⟩
        rcases Nat.le_succ_iff.1 le with below | rfl
        · exact latest k below startsK
        · exact absurd ((s.startsIn_iff t0 t1 (n + 1)).2 startsK) not
    next => cases found

theorem State.latestStart_eq_none {s : State} {t0 t1 : ClockTime} {n : Nat} (missed : s.latestStart t0 t1 n = none) :
    ∀ k ≤ n, ¬ s.StartsIn t0 t1 k := by
  induction n with
  | zero =>
    rw [State.latestStart] at missed
    split at missed
    next => cases missed
    next not =>
      intro k le starts
      obtain rfl := Nat.le_zero.1 le
      exact not ((s.startsIn_iff t0 t1 0).2 starts)
  | succ n ih =>
    rw [State.latestStart] at missed
    split at missed
    next after =>
      split at missed
      next => cases missed
      next not =>
        intro k le starts
        rcases Nat.le_succ_iff.1 le with below | rfl
        · exact ih missed k below starts
        · exact not ((s.startsIn_iff t0 t1 (n + 1)).2 starts)
    next early =>
      rintro k le ⟨after, -⟩
      refine early ?_
      unfold ClockTime.Before State.windowStartOf at *
      dsimp only at *
      omega

theorem State.StartsIn.day_le {s : State} {t0 t1 : ClockTime} {n : Nat} (h : s.StartsIn t0 t1 n) : n ≤ t1.day := by
  obtain ⟨-, upTo, -⟩ := h
  unfold ClockTime.NotAfter State.windowStartOf at upTo
  dsimp only at upTo
  omega

/-! ## The agenda in order of time -/

/-- An event of a list that no other precedes. -/
abbrev IsFirst (l : List (ClockTime × ClockEvent)) (e : ClockTime × ClockEvent) : Prop :=
  e ∈ l ∧ ∀ x ∈ l, ClockTime.NotAfter e.1 x.1

theorem mem_firstEvents (l : List (ClockTime × ClockEvent)) (e : ClockTime × ClockEvent) : e ∈ firstEvents l ↔ IsFirst l e := by
  simp [firstEvents, IsFirst]

/-- A list that is not empty has a first event. -/
theorem exists_isFirst {l : List (ClockTime × ClockEvent)} (some_left : l ≠ []) : ∃ e, IsFirst l e := by
  induction l with
  | nil => exact absurd rfl some_left
  | cons a l ih =>
    by_cases rest : l = []
    · subst rest
      exact ⟨a, List.mem_cons_self, fun x hx => List.mem_singleton.1 hx ▸ ClockTime.notAfter_refl _⟩
    · obtain ⟨e, mem, first⟩ := ih rest
      rcases ClockTime.notAfter_total a.1 e.1 with h | h
      · refine ⟨a, List.mem_cons_self, fun x hx => ?_⟩
        rcases List.mem_cons.1 hx with rfl | hx
        · exact ClockTime.notAfter_refl _
        · exact ClockTime.notAfter_trans h (first x hx)
      · refine ⟨e, List.mem_cons_of_mem _ mem, fun x hx => ?_⟩
        rcases List.mem_cons.1 hx with rfl | hx
        · exact h
        · exact first x hx

/-- What holds at the start, is kept by each event that no other precedes, and does not read the count of free choices, holds at the end. -/
theorem State.runAgenda_keeps {take : State → ClockEvent → State} {P : State → List (ClockTime × ClockEvent) → Prop}
    (counts : ∀ u l k, P u l → P { u with freeCount := k } l)
    (takes : ∀ u l e, P u l → IsFirst l e → P (take u e.2) (l.erase e))
    (fuel : Nat) (l : List (ClockTime × ClockEvent)) (enough : l.length ≤ fuel) (s : State) (start : P s l) :
    P (State.runAgenda take fuel l s) [] := by
  induction fuel generalizing l s with
  | zero =>
    obtain rfl := List.length_eq_zero_iff.1 (Nat.le_zero.1 enough)
    exact start
  | succ fuel ih =>
    have shorter : ∀ e ∈ l, (l.erase e).length ≤ fuel := fun e mem => by
      rw [List.length_erase_of_mem mem]; omega
    rw [State.runAgenda]
    split
    next none_first =>
      by_cases rest : l = []
      · exact rest ▸ start
      · obtain ⟨e, first⟩ := exists_isFirst rest
        have mem := (mem_firstEvents l e).2 first
        rw [none_first] at mem
        cases mem
    next e only =>
      have first : IsFirst l e := (mem_firstEvents l e).1 (only ▸ List.mem_singleton_self e)
      exact ih _ (shorter e first.1) _ (takes s l e start first)
    next e es _ tie =>
      dsimp only
      generalize picked_eq : (e :: es).getD (Config.tiePick s.freeCount % (es.length + 1)) e = picked
      have mem : picked ∈ e :: es := by
        have bound : Config.tiePick s.freeCount % (es.length + 1) < (e :: es).length := by
          rw [List.length_cons]; exact Nat.mod_lt _ (Nat.succ_pos _)
        rw [← picked_eq, List.getD_eq_getElem _ _ bound]
        exact List.getElem_mem bound
      have first : IsFirst l picked := (mem_firstEvents l picked).1 (tie ▸ mem)
      exact ih _ (shorter picked first.1) _ (takes _ l picked (counts s l _ start) first)

/-- Events with times of their own are taken in the order of their times. -/
theorem State.runAgenda_sorted (take : State → ClockEvent → State) (fuel : Nat) {l order : List (ClockTime × ClockEvent)}
    (perm : order.Perm l) (sorted : order.Pairwise (fun e f => ClockTime.Before e.1 f.1)) (enough : l.length ≤ fuel) (s : State) :
    State.runAgenda take fuel l s = order.foldl (fun u e => take u e.2) s := by
  induction order generalizing fuel l s with
  | nil =>
    obtain rfl := perm.symm.eq_nil
    cases fuel <;> rfl
  | cons e es ih =>
    obtain ⟨before, sorted⟩ := List.pairwise_cons.1 sorted
    obtain ⟨fuel, rfl⟩ : ∃ k, fuel = k + 1 := by
      have := perm.length_eq
      rw [List.length_cons] at this
      exact ⟨fuel - 1, by omega⟩
    have only : firstEvents l = [e] := by
      have none_other : es.filter (fun x => l.all (fun y => decide (ClockTime.NotAfter x.1 y.1))) = [] := by
        refine List.filter_eq_nil_iff.2 fun x mem all => ?_
        have notAfter := of_decide_eq_true (List.all_eq_true.1 all e (perm.mem_iff.1 List.mem_cons_self))
        exact ClockTime.not_notAfter.2 (before x mem) notAfter
      have first : l.all (fun y => decide (ClockTime.NotAfter e.1 y.1)) = true := by
        refine List.all_eq_true.2 fun y mem => decide_eq_true ?_
        rcases List.mem_cons.1 (perm.mem_iff.2 mem) with rfl | later
        · exact ClockTime.notAfter_refl _
        · have := before y later
          unfold ClockTime.Before at this; unfold ClockTime.NotAfter; omega
      have leads : (e :: es).filter (fun x => l.all (fun y => decide (ClockTime.NotAfter x.1 y.1))) =
          e :: es.filter (fun x => l.all (fun y => decide (ClockTime.NotAfter x.1 y.1))) := List.filter_cons_of_pos first
      rw [none_other] at leads
      exact List.perm_singleton.1 ((perm.filter _).symm.trans (.of_eq leads))
    rw [State.runAgenda, only]
    refine ih fuel (l := l.erase e) ?_ sorted ?_ _
    · exact (List.cons_perm_iff_perm_erase.1 perm).2
    · rw [List.length_erase_of_mem (perm.mem_iff.1 List.mem_cons_self)]; omega

end Sys2Proof.Machine
end

section
/-!
PROOF. How the events of a span move the phase of the night (R5 to R10), and what of the agenda lies ahead of each phase.
-/

namespace Sys2Proof.Machine

/-! ## What an event does to phase and night day -/

/-- The phase and night day `(ph, nd)` become `(ph', nd')` when event `e` is reached, the grace being `grace` (R5 to R10). -/
def NightMoves (grace : Nat) (e : ClockEvent) (ph : Phase) (nd : Option Nat) (ph' : Phase) (nd' : Option Nat) : Prop :=
  match e with
  | .windowStart n => if ph = .daytime ∨ ph = .closing then ph' = .collecting ∧ nd' = some n else ph' = ph ∧ nd' = nd
  | .windowEnd =>
    if ph = .collecting then nd' = nd ∧ (ph' = .daytime ∨ (grace = 0 ∧ ph' = .closing) ∨ (grace ≠ 0 ∧ ph' = .settling))
    else ph' = ph ∧ nd' = nd
  | .graceExpiry => if ph = .settling then nd' = nd ∧ (ph' = .daytime ∨ ph' = .closing) else ph' = ph ∧ nd' = nd
  | .holdExpiry _ => ph' = ph ∧ nd' = nd

theorem nightMoves_windowStart {g n : Nat} {ph ph' : Phase} {nd nd' : Option Nat} :
    NightMoves g (.windowStart n) ph nd ph' nd' ↔
      if ph = .daytime ∨ ph = .closing then ph' = .collecting ∧ nd' = some n else ph' = ph ∧ nd' = nd := Iff.rfl

theorem nightMoves_windowEnd {g : Nat} {ph ph' : Phase} {nd nd' : Option Nat} :
    NightMoves g .windowEnd ph nd ph' nd' ↔
      if ph = .collecting then nd' = nd ∧ (ph' = .daytime ∨ (g = 0 ∧ ph' = .closing) ∨ (g ≠ 0 ∧ ph' = .settling))
      else ph' = ph ∧ nd' = nd := Iff.rfl

theorem nightMoves_graceExpiry {g : Nat} {ph ph' : Phase} {nd nd' : Option Nat} :
    NightMoves g .graceExpiry ph nd ph' nd' ↔
      if ph = .settling then nd' = nd ∧ (ph' = .daytime ∨ ph' = .closing) else ph' = ph ∧ nd' = nd := Iff.rfl

/-- `v` is `u` with the phase, the night day and the night mark moved. -/
abbrev NightClock.Moved (u v : NightClock) : Prop :=
  v = { u with phase := v.phase, nightDay := v.nightDay, nightMark := v.nightMark }

theorem NightClock.Moved.trans {u v w : NightClock} (h : u.Moved v) (k : v.Moved w) : u.Moved w := by
  unfold NightClock.Moved at *; rw [k, h]

theorem State.openNight_nck (s : State) (n : Nat) :
    (s.openNight n).nck = { s.nck with phase := .collecting, nightDay := some n, nightMark := some (s.graceExpiryOf n) } := by
  rw [State.openNight_eq]

theorem State.abandonNight_nck (s : State) : s.abandonNight.nck = s.nck := by
  have dropped : (s.nightDropped (s.nck.nightDay.getD 0)).nck = s.nck := by rw [(s.nightDropped_acted _).rest]
  have folded : allDistricts.foldl (State.abandonWaiting (s.nck.nightDay.getD 0)) (s.abandonFlight (s.nck.nightDay.getD 0)) =
    s.nightDropped (s.nck.nightDay.getD 0) := rfl
  unfold State.abandonNight
  dsimp only
  rw [folded]
  generalize s.nightDropped (s.nck.nightDay.getD 0) = u at *
  rw [State.raiseAll_frame]
  exact dropped

theorem State.reachWindowStart_nck (s : State) (n : Nat) :
    (s.reachWindowStart n).nck =
      if s.nck.phase = .daytime ∨ s.nck.phase = .closing then
        { s.nck with phase := .collecting, nightDay := some n, nightMark := some (s.graceExpiryOf n) } else s.nck := by
  unfold State.reachWindowStart
  cases phase : s.nck.phase
  case daytime => rw [if_pos (.inl rfl), State.openNight_nck]
  case closing =>
    have mark : s.abandonNight.graceExpiryOf n = s.graceExpiryOf n := by
      simp only [State.graceExpiryOf, State.windowEndOf, State.windowStartOf, State.abandonNight_nck]
    rw [if_pos (.inr rfl), State.openNight_nck, mark, State.abandonNight_nck]
  all_goals rw [if_neg (by simp)]

/-- A night-end test of a night that is being closed leaves the phase or ends it. -/
theorem State.nightEndTest_nck (s : State) (open_ : s.nck.phase = .settling ∨ s.nck.phase = .closing) :
    ∃ ph, (ph = .daytime ∨ ph = s.nck.phase) ∧ s.nightEndTest.nck = { s.nck with phase := ph } := by
  refine ⟨if ∃ d : District, s.Unclosed d then s.nck.phase else .daytime, ?_, congrArg State.nck (State.nightEndTest_eq s open_)⟩
  split
  · exact .inr rfl
  · exact .inl rfl

theorem State.closeByGrace_nck (s : State) :
    ∃ ph, (ph = .daytime ∨ ph = .closing) ∧ s.closeByGrace.nck = { s.nck with phase := ph } := by
  rw [State.closeByGrace_eq]
  obtain ⟨ph, kind, nck⟩ := State.nightEndTest_nck s.graceQueued (.inr rfl)
  exact ⟨ph, kind, nck.trans (by rw [State.graceQueued_eq])⟩

theorem State.completeQueued_nck (s : State) : s.completeQueued.nck = { s.nck with phase := .settling } := by
  rw [State.completeQueued_eq]

theorem State.reachGraceExpiry_moves (s : State) :
    s.nck.Moved s.reachGraceExpiry.nck ∧
    NightMoves s.nck.grace .graceExpiry s.nck.phase s.nck.nightDay s.reachGraceExpiry.nck.phase s.reachGraceExpiry.nck.nightDay := by
  unfold State.reachGraceExpiry NightMoves
  by_cases settling : s.nck.phase = .settling
  · obtain ⟨ph, kind, nck⟩ := s.closeByGrace_nck
    rw [if_pos settling, nck, if_pos settling]
    exact ⟨rfl, rfl, kind⟩
  · rw [if_neg settling, if_neg settling]
    exact ⟨rfl, rfl, rfl⟩

theorem State.reachWindowEnd_moves (s : State) :
    s.nck.Moved s.reachWindowEnd.nck ∧
    NightMoves s.nck.grace .windowEnd s.nck.phase s.nck.nightDay s.reachWindowEnd.nck.phase s.reachWindowEnd.nck.nightDay := by
  unfold NightMoves
  by_cases collecting : s.nck.phase = .collecting
  · have queued := s.completeQueued_nck
    rw [State.reachWindowEnd_eq collecting, if_pos collecting]
    by_cases grace : s.nck.grace = 0
    · obtain ⟨ph, kind, nck⟩ := s.completeQueued.closeByGrace_nck
      rw [if_pos grace, nck, queued]
      exact ⟨rfl, rfl, kind.imp id fun closed => .inl ⟨grace, closed⟩⟩
    · have settling : s.completeQueued.nck.phase = .settling := by rw [queued]
      obtain ⟨ph, kind, nck⟩ := s.completeQueued.nightEndTest_nck (.inl settling)
      rw [settling] at kind
      rw [if_neg grace, nck, queued]
      exact ⟨rfl, rfl, kind.imp id fun stays => .inr ⟨grace, stays⟩⟩
  · rw [State.reachWindowEnd, if_neg collecting, if_neg collecting]
    exact ⟨rfl, rfl, rfl⟩

theorem State.expireHold_nck (s : State) (d : District) : (s.expireHold d).nck = s.nck := by
  rcases Option.eq_none_or_eq_some (s.district d).hold with free | ⟨h, held⟩
  · rw [State.expireHold, free]
  · rw [State.expireHold_eq held]

/-- An event moves nothing of the Night Clock but phase, night day and night mark, and those as R5 to R10 say. -/
theorem State.reach_moves (s : State) (e : ClockEvent) :
    s.nck.Moved (s.reach e).nck ∧
    NightMoves s.nck.grace e s.nck.phase s.nck.nightDay (s.reach e).nck.phase (s.reach e).nck.nightDay := by
  cases e with
  | windowStart n =>
    have reached : (s.reach (.windowStart n)).nck = _ := s.reachWindowStart_nck n
    rw [nightMoves_windowStart, reached]
    by_cases opens : s.nck.phase = .daytime ∨ s.nck.phase = .closing
    · rw [if_pos opens, if_pos opens]; exact ⟨rfl, rfl, rfl⟩
    · rw [if_neg opens, if_neg opens]; exact ⟨rfl, rfl, rfl⟩
  | windowEnd => exact s.reachWindowEnd_moves
  | graceExpiry => exact s.reachGraceExpiry_moves
  | holdExpiry d =>
    have same : (s.reach (.holdExpiry d)).nck = s.nck := s.expireHold_nck d
    rw [same]
    exact ⟨rfl, rfl, rfl⟩

theorem State.choose_nck (s : State) : s.choose.nck = s.nck := by rw [State.choose_frame]

theorem State.reachInJump_nck (s : State) (e : ClockEvent) : (s.reachInJump e).nck = (s.reach e).nck := by
  unfold State.reachInJump
  split
  · exact State.choose_nck _
  · rfl

/-! ## What lies ahead (R4, R5) -/

section
variable (s : State) (t1 : ClockTime)

/-- Of the window end and grace expiry of night `m`, the list holds what does not lie past `t1`. -/
abbrev EndsAhead (l : List (ClockTime × ClockEvent)) (m : Nat) : Prop :=
  ((s.windowEndOf m, .windowEnd) ∈ l ∨ t1.total < (s.windowEndOf m).total) ∧
  (s.nck.grace ≠ 0 → (s.graceExpiryOf m, .graceExpiry) ∈ l ∨ t1.total < (s.graceExpiryOf m).total)

/-- Where the night stands when the list is what is left to take up to `t1`, under the window settings of `s`. -/
structure OnAgenda (l : List (ClockTime × ClockEvent)) (ph : Phase) (nd : Option Nat) : Prop where
  nodup : l.Nodup
  starts : ∀ x n, (x, .windowStart n) ∈ l → x = s.windowStartOf n ∧ x.total ≤ t1.total ∧
    (∀ m, nd = some m → m < n) ∧ ClockTime.NotAfter (s.graceExpiryOf n) lastMinute ∧ EndsAhead s t1 l n
  oneStart : ∀ x n y m, (x, .windowStart n) ∈ l → (y, .windowStart m) ∈ l → n = m
  ends : ∀ x, (x, .windowEnd) ∈ l → x.total ≤ t1.total ∧ ∃ k, x = s.windowEndOf k
  graces : ∀ x, (x, .graceExpiry) ∈ l → x.total ≤ t1.total ∧ s.nck.grace ≠ 0 ∧ ∃ k, x = s.graceExpiryOf k
  collecting : ph = .collecting → ∃ m, nd = some m ∧ (s.windowStartOf m).total ≤ t1.total ∧ EndsAhead s t1 l m ∧
    (∀ x, (x, .windowEnd) ∈ l → (s.windowEndOf m).total ≤ x.total) ∧ (∀ x, (x, .graceExpiry) ∈ l → (s.windowEndOf m).total ≤ x.total)
  settling : ph = .settling → ∃ m, nd = some m ∧ (s.windowEndOf m).total ≤ t1.total ∧ s.nck.grace ≠ 0 ∧
    ((s.graceExpiryOf m, .graceExpiry) ∈ l ∨ t1.total < (s.graceExpiryOf m).total) ∧
    (∀ x, (x, .graceExpiry) ∈ l → (s.graceExpiryOf m).total ≤ x.total)
  closing : ph = .closing → ∃ m, nd = some m ∧ (s.windowEndOf m).total ≤ t1.total

end

section
variable {s : State} {t1 : ClockTime} {l : List (ClockTime × ClockEvent)} {ph ph' : Phase} {nd nd' : Option Nat}

/-- The time `t` lies where phase `ph` of night `nd` puts it (R5). -/
structure State.StandsAt (s : State) (ph : Phase) (nd : Option Nat) (t : ClockTime) : Prop where
  collecting : ph = .collecting → ∃ m, nd = some m ∧ (s.windowStartOf m).total ≤ t.total ∧ t.total < (s.windowEndOf m).total
  settling : ph = .settling → ∃ m, nd = some m ∧ (s.windowEndOf m).total ≤ t.total ∧ t.total < (s.graceExpiryOf m).total
  closing : ph = .closing → ∃ m, nd = some m ∧ (s.windowEndOf m).total ≤ t.total

/-- With nothing left, the time `t1` lies where the phase puts it (R5). -/
theorem OnAgenda.done (h : OnAgenda s t1 [] ph nd) : s.StandsAt ph nd t1 := by
  refine ⟨fun c => ?_, fun c => ?_, h.closing⟩
  · obtain ⟨m, night, begun, ⟨ends, -⟩, -⟩ := h.collecting c
    exact ⟨m, night, begun, ends.resolve_left List.not_mem_nil⟩
  · obtain ⟨m, night, begun, -, ends, -⟩ := h.settling c
    exact ⟨m, night, begun, ends.resolve_left List.not_mem_nil⟩

/-- An event of another kind stays in the list when one is taken. -/
theorem mem_erase_of_kind {e : ClockTime × ClockEvent} {x : ClockTime} {k : ClockEvent} (other : e.2 ≠ k) :
    (x, k) ∈ l.erase e ↔ (x, k) ∈ l :=
  List.mem_erase_of_ne fun same => other (congrArg Prod.snd same).symm

/-- A hold expiry leaves what lies ahead of the night. -/
theorem OnAgenda.of_same_boundaries (h : OnAgenda s t1 l ph nd) {l' : List (ClockTime × ClockEvent)} (nodup : l'.Nodup)
    (same : ∀ x k, (∀ d, k ≠ .holdExpiry d) → ((x, k) ∈ l' ↔ (x, k) ∈ l)) : OnAgenda s t1 l' ph nd := by
  have start : ∀ x n, (x, ClockEvent.windowStart n) ∈ l' ↔ (x, .windowStart n) ∈ l := fun x n => same x _ (by simp)
  have wend : ∀ x, (x, ClockEvent.windowEnd) ∈ l' ↔ (x, .windowEnd) ∈ l := fun x => same x _ (by simp)
  have grace : ∀ x, (x, ClockEvent.graceExpiry) ∈ l' ↔ (x, .graceExpiry) ∈ l := fun x => same x _ (by simp)
  refine ⟨nodup, ?_, ?_, ?_, ?_, ?_, ?_, h.closing⟩
  all_goals simp only [start, wend, grace, EndsAhead]
  exacts [h.starts, h.oneStart, h.ends, h.graces, h.collecting, h.settling]

section
variable (h : OnAgenda s t1 l ph nd)
include h

/-- In COLLECTING the next window end is that of the current night. -/
theorem OnAgenda.windowEnd_current {x : ClockTime} (first : IsFirst l (x, .windowEnd)) (c : ph = .collecting) :
    ∃ m, nd = some m ∧ x = s.windowEndOf m := by
  obtain ⟨m, night, -, ⟨ahead, -⟩, later, -⟩ := h.collecting c
  obtain ⟨upTo, k, rfl⟩ := h.ends x first.1
  have ge := later _ first.1
  refine ⟨m, night, ?_⟩
  rcases ahead with mem | past
  · have le := (ClockTime.notAfter_iff (s.windowEndOf_proper k) (s.windowEndOf_proper m)).1 (first.2 _ mem)
    exact ClockTime.eq_of_total (s.windowEndOf_proper k) (s.windowEndOf_proper m) (le_antisymm le ge)
  · omega

/-- In SETTLING the next grace expiry is that of the current night. -/
theorem OnAgenda.graceExpiry_current {x : ClockTime} (first : IsFirst l (x, .graceExpiry)) (c : ph = .settling) :
    ∃ m, nd = some m ∧ x = s.graceExpiryOf m := by
  obtain ⟨m, night, -, -, ahead, later⟩ := h.settling c
  obtain ⟨upTo, -, k, rfl⟩ := h.graces x first.1
  have ge := later _ first.1
  refine ⟨m, night, ?_⟩
  rcases ahead with mem | past
  · have le := (ClockTime.notAfter_iff (s.graceExpiryOf_proper k) (s.graceExpiryOf_proper m)).1 (first.2 _ mem)
    exact ClockTime.eq_of_total (s.graceExpiryOf_proper k) (s.graceExpiryOf_proper m) (le_antisymm le ge)
  · omega

variable (fits : s.WindowFits)
include fits

/-- A window start still to come has its window end and its grace expiry behind it, so neither is the next event. -/
theorem OnAgenda.start_not_first {x y : ClockTime} {k : ClockEvent} {n : Nat} (first : IsFirst l (x, k)) (start : (y, .windowStart n) ∈ l)
    (proper : x.Proper) : x.total ≤ (s.windowStartOf n).total := by
  obtain ⟨rfl, -⟩ := h.starts y n start
  exact (ClockTime.notAfter_iff proper (State.windowStartOf_proper fits n)).1 (first.2 _ start)

theorem OnAgenda.take_windowStart {x : ClockTime} {n : Nat} (first : IsFirst l (x, .windowStart n))
    (moves : NightMoves s.nck.grace (.windowStart n) ph nd ph' nd') : OnAgenda s t1 (l.erase (x, .windowStart n)) ph' nd' := by
  have gone : ∀ y m, (y, ClockEvent.windowStart m) ∉ l.erase (x, .windowStart n) := by
    intro y m mem
    obtain ⟨other, left⟩ := h.nodup.mem_erase_iff.1 mem
    have same : m = n := h.oneStart _ _ _ _ left first.1
    have time : y = x := by rw [(h.starts _ _ left).1, (h.starts _ _ first.1).1, same]
    exact other (by rw [same, time])
  obtain ⟨at_start, upTo, later, -, ahead⟩ := h.starts x n first.1
  have wend : ∀ y, (y, ClockEvent.windowEnd) ∈ l.erase (x, .windowStart n) ↔ (y, .windowEnd) ∈ l := fun y => mem_erase_of_kind (by simp)
  have grace : ∀ y, (y, ClockEvent.graceExpiry) ∈ l.erase (x, .windowStart n) ↔ (y, .graceExpiry) ∈ l := fun y => mem_erase_of_kind (by simp)
  have proper := State.windowStartOf_proper fits n
  subst at_start
  refine ⟨h.nodup.erase _, fun y m mem => absurd mem (gone y m), fun y m _ _ mem => absurd mem (gone y m), ?_, ?_, ?_, ?_, ?closing⟩
  case closing =>
    intro closing
    rw [nightMoves_windowStart] at moves
    by_cases opens : ph = .daytime ∨ ph = .closing
    · rw [if_pos opens] at moves
      exact Phase.noConfusion (moves.1.symm.trans closing)
    · rw [if_neg opens] at moves
      obtain ⟨rfl, rfl⟩ := moves
      exact h.closing closing
  all_goals simp only [EndsAhead, wend, grace]
  · exact h.ends
  · exact h.graces
  all_goals rw [nightMoves_windowStart] at moves
  · intro collecting
    by_cases opens : ph = .daytime ∨ ph = .closing
    · rw [if_pos opens] at moves
      refine ⟨n, moves.2, upTo, ahead, fun y mem => ?_, fun y mem => ?_⟩
      · obtain ⟨-, k, rfl⟩ := h.ends y mem
        have le := (ClockTime.notAfter_iff proper (s.windowEndOf_proper k)).1 (first.2 _ mem)
        simp only [State.windowStartOf_total, State.windowEndOf_total] at *
        omega
      · obtain ⟨-, -, k, rfl⟩ := h.graces y mem
        have le := (ClockTime.notAfter_iff proper (s.graceExpiryOf_proper k)).1 (first.2 _ mem)
        simp only [State.windowStartOf_total, State.windowEndOf_total, State.graceExpiryOf_total] at *
        omega
    · rw [if_neg opens] at moves
      obtain ⟨rfl, rfl⟩ := moves
      exact h.collecting collecting
  · intro settling
    by_cases opens : ph = .daytime ∨ ph = .closing
    · rw [if_pos opens] at moves
      exact Phase.noConfusion (moves.1.symm.trans settling)
    · rw [if_neg opens] at moves
      obtain ⟨rfl, rfl⟩ := moves
      exact h.settling settling

theorem OnAgenda.take_windowEnd {x : ClockTime} (first : IsFirst l (x, .windowEnd))
    (moves : NightMoves s.nck.grace .windowEnd ph nd ph' nd') : OnAgenda s t1 (l.erase (x, .windowEnd)) ph' nd' := by
  have start : ∀ y m, (y, ClockEvent.windowStart m) ∈ l.erase (x, .windowEnd) ↔ (y, .windowStart m) ∈ l := fun y m => mem_erase_of_kind (by simp)
  have grace : ∀ y, (y, ClockEvent.graceExpiry) ∈ l.erase (x, .windowEnd) ↔ (y, .graceExpiry) ∈ l := fun y => mem_erase_of_kind (by simp)
  have wend : ∀ y, (y, ClockEvent.windowEnd) ∈ l.erase (x, .windowEnd) → (y, .windowEnd) ∈ l := fun y => List.mem_of_mem_erase
  obtain ⟨upTo, k, rfl⟩ := h.ends x first.1
  have proper := s.windowEndOf_proper k
  have startAhead : ∀ y n, (y, ClockEvent.windowStart n) ∈ l → EndsAhead s t1 (l.erase (s.windowEndOf k, .windowEnd)) n := by
    intro y n mem
    obtain ⟨wendAhead, graceAhead⟩ := (h.starts y n mem).2.2.2.2
    have before := h.start_not_first fits first mem proper
    refine ⟨wendAhead.imp_left fun left => h.nodup.mem_erase_iff.2 ⟨fun same => ?_, left⟩, fun g => (graceAhead g).imp_left (grace _).2⟩
    have total : (s.windowEndOf n).total = (s.windowEndOf k).total := congrArg ClockTime.total (Prod.mk.inj same).1
    simp only [State.windowEndOf_total, State.windowStartOf_total] at *
    omega
  rw [nightMoves_windowEnd] at moves
  by_cases collecting : ph = .collecting
  · rw [if_pos collecting] at moves
    obtain ⟨rfl, phase⟩ := moves
    obtain ⟨m, night, current⟩ := h.windowEnd_current first collecting
    obtain ⟨m', night', begun, ⟨-, graceAhead⟩, -, later⟩ := h.collecting collecting
    obtain rfl : m' = m := Option.some.inj (night'.symm.trans night)
    refine ⟨h.nodup.erase _, fun y n mem => ?_, fun y n z m mem mem' => h.oneStart y n z m ((start _ _).1 mem) ((start _ _).1 mem'),
      fun y mem => h.ends y (wend y mem), fun y mem => h.graces y ((grace y).1 mem), fun c => ?_, fun c => ?_, fun _ => ⟨m', night, current ▸ upTo⟩⟩
    · obtain ⟨at_start, le, later, fit, -⟩ := h.starts y n ((start y n).1 mem)
      exact ⟨at_start, le, later, fit, startAhead y n ((start y n).1 mem)⟩
    · rcases phase with rfl | ⟨-, rfl⟩ | ⟨-, rfl⟩ <;> cases c
    · rcases phase with rfl | ⟨-, rfl⟩ | ⟨grace_pos, -⟩
      · cases c
      · cases c
      · refine ⟨m', night, current ▸ upTo, grace_pos, (graceAhead grace_pos).imp_left (grace _).2, fun y mem => ?_⟩
        have mem := (grace y).1 mem
        have ge := later y mem
        obtain ⟨-, -, j, rfl⟩ := h.graces y mem
        simp only [State.windowEndOf_total, State.graceExpiryOf_total] at *
        omega
  · rw [if_neg collecting] at moves
    obtain ⟨rfl, rfl⟩ := moves
    refine ⟨h.nodup.erase _, fun y n mem => ?_, fun y n z m mem mem' => h.oneStart y n z m ((start _ _).1 mem) ((start _ _).1 mem'),
      fun y mem => h.ends y (wend y mem), fun y mem => h.graces y ((grace y).1 mem), fun c => absurd c collecting, fun c => ?_, h.closing⟩
    · obtain ⟨at_start, le, later, fit, -⟩ := h.starts y n ((start y n).1 mem)
      exact ⟨at_start, le, later, fit, startAhead y n ((start y n).1 mem)⟩
    · obtain ⟨m, night, begun, grace_pos, ahead, later⟩ := h.settling c
      exact ⟨m, night, begun, grace_pos, ahead.imp_left (grace _).2, fun y mem => later y ((grace y).1 mem)⟩

theorem OnAgenda.take_graceExpiry {x : ClockTime} (first : IsFirst l (x, .graceExpiry))
    (moves : NightMoves s.nck.grace .graceExpiry ph nd ph' nd') : OnAgenda s t1 (l.erase (x, .graceExpiry)) ph' nd' := by
  have start : ∀ y m, (y, ClockEvent.windowStart m) ∈ l.erase (x, .graceExpiry) ↔ (y, .windowStart m) ∈ l := fun y m => mem_erase_of_kind (by simp)
  have wend : ∀ y, (y, ClockEvent.windowEnd) ∈ l.erase (x, .graceExpiry) ↔ (y, .windowEnd) ∈ l := fun y => mem_erase_of_kind (by simp)
  have grace : ∀ y, (y, ClockEvent.graceExpiry) ∈ l.erase (x, .graceExpiry) → (y, .graceExpiry) ∈ l := fun y => List.mem_of_mem_erase
  obtain ⟨upTo, grace_pos, k, rfl⟩ := h.graces x first.1
  have proper := s.graceExpiryOf_proper k
  have startAhead : ∀ y n, (y, ClockEvent.windowStart n) ∈ l → EndsAhead s t1 (l.erase (s.graceExpiryOf k, .graceExpiry)) n := by
    intro y n mem
    obtain ⟨wendAhead, graceAhead⟩ := (h.starts y n mem).2.2.2.2
    have before := h.start_not_first fits first mem proper
    refine ⟨wendAhead.imp_left (wend _).2, fun g => (graceAhead g).imp_left fun left => h.nodup.mem_erase_iff.2 ⟨fun same => ?_, left⟩⟩
    have total : (s.graceExpiryOf n).total = (s.graceExpiryOf k).total := congrArg ClockTime.total (Prod.mk.inj same).1
    simp only [State.graceExpiryOf_total, State.windowStartOf_total] at *
    omega
  have starts : ∀ y n, (y, ClockEvent.windowStart n) ∈ l.erase (s.graceExpiryOf k, .graceExpiry) → y = s.windowStartOf n ∧ y.total ≤ t1.total ∧
      (∀ m, nd = some m → m < n) ∧ ClockTime.NotAfter (s.graceExpiryOf n) lastMinute ∧ EndsAhead s t1 (l.erase (s.graceExpiryOf k, .graceExpiry)) n := by
    intro y n mem
    obtain ⟨at_start, le, later, fit, -⟩ := h.starts y n ((start y n).1 mem)
    exact ⟨at_start, le, later, fit, startAhead y n ((start y n).1 mem)⟩
  rw [nightMoves_graceExpiry] at moves
  by_cases settling : ph = .settling
  · rw [if_pos settling] at moves
    obtain ⟨rfl, phase⟩ := moves
    obtain ⟨m, night, begun, -⟩ := h.settling settling
    refine ⟨h.nodup.erase _, starts, fun y n z m mem mem' => h.oneStart y n z m ((start _ _).1 mem) ((start _ _).1 mem'),
      fun y mem => h.ends y ((wend y).1 mem), fun y mem => h.graces y (grace y mem), fun c => ?_, fun c => ?_, fun _ => ⟨m, night, begun⟩⟩
    · rcases phase with rfl | rfl <;> cases c
    · rcases phase with rfl | rfl <;> cases c
  · rw [if_neg settling] at moves
    obtain ⟨rfl, rfl⟩ := moves
    refine ⟨h.nodup.erase _, starts, fun y n z m mem mem' => h.oneStart y n z m ((start _ _).1 mem) ((start _ _).1 mem'),
      fun y mem => h.ends y ((wend y).1 mem), fun y mem => h.graces y (grace y mem), fun c => ?_, fun c => absurd c settling, h.closing⟩
    obtain ⟨m, night, begun, ⟨wendAhead, graceAhead⟩, wendLater, graceLater⟩ := h.collecting c
    refine ⟨m, night, begun, ⟨wendAhead.imp_left (wend _).2, fun g => (graceAhead g).imp_left fun left =>
      h.nodup.mem_erase_iff.2 ⟨fun same => ?_, left⟩⟩, fun y mem => wendLater y ((wend y).1 mem), fun y mem => graceLater y (grace y mem)⟩
    have total : (s.graceExpiryOf m).total = (s.graceExpiryOf k).total := congrArg ClockTime.total (Prod.mk.inj same).1
    rcases wendAhead with mem | past
    · have le := (ClockTime.notAfter_iff proper (s.windowEndOf_proper m)).1 (first.2 _ mem)
      simp only [State.windowEndOf_total, State.graceExpiryOf_total] at *
      omega
    · simp only [State.windowEndOf_total, State.graceExpiryOf_total] at *
      omega

/-- The next event of the agenda, taken as R5 to R10 say, leaves the agenda of what is left. -/
theorem OnAgenda.take {e : ClockTime × ClockEvent} (first : IsFirst l e) (moves : NightMoves s.nck.grace e.2 ph nd ph' nd') :
    OnAgenda s t1 (l.erase e) ph' nd' := by
  obtain ⟨x, k⟩ := e
  cases k with
  | windowStart n => exact h.take_windowStart fits first moves
  | windowEnd => exact h.take_windowEnd fits first moves
  | graceExpiry => exact h.take_graceExpiry fits first moves
  | holdExpiry d =>
    obtain ⟨rfl, rfl⟩ := moves
    exact h.of_same_boundaries (h.nodup.erase _) fun y k boundary => mem_erase_of_kind (boundary d).symm

end

end

end Sys2Proof.Machine
end

section
/-!
PROOF. The agenda of a span: what is in it, and where the night stands when it begins (R5, R12).
-/

namespace Sys2Proof.Machine

/-! ## What is in the agenda -/

section
variable (s : State) (t0 t1 : ClockTime)

theorem State.mem_closingEvents (n : Nat) (e : ClockTime × ClockEvent) :
    e ∈ s.closingEvents n ↔ e = (s.windowEndOf n, .windowEnd) ∨ (s.nck.grace ≠ 0 ∧ e = (s.graceExpiryOf n, .graceExpiry)) := by
  unfold State.closingEvents
  by_cases grace : s.nck.grace = 0 <;> simp [grace]

/-- Night `m` closes in the span, if at all: it is in progress, or the span opens it. -/
abbrev State.Closes (m : Nat) : Prop := (s.nightInProgress = true ∧ s.nck.nightDay.getD 0 = m) ∨ s.latestStart t0 t1 t1.day = some m

theorem State.mem_boundaries (e : ClockTime × ClockEvent) :
    e ∈ s.currentNightEvents ++ s.nextNightEvents t0 t1 ↔
      (∃ n, s.latestStart t0 t1 t1.day = some n ∧ e = (s.windowStartOf n, .windowStart n)) ∨
      ∃ m, s.Closes t0 t1 m ∧ e ∈ s.closingEvents m := by
  have current : e ∈ s.currentNightEvents ↔ s.nightInProgress = true ∧ e ∈ s.closingEvents (s.nck.nightDay.getD 0) := by
    unfold State.currentNightEvents
    by_cases night : s.nightInProgress = true <;> simp [night]
  have next : e ∈ s.nextNightEvents t0 t1 ↔ ∃ n, s.latestStart t0 t1 t1.day = some n ∧
      (e = (s.windowStartOf n, .windowStart n) ∨ e ∈ s.closingEvents n) := by
    unfold State.nextNightEvents
    cases s.latestStart t0 t1 t1.day <;> simp
  rw [List.mem_append, current, next]
  constructor
  · rintro (⟨night, mem⟩ | ⟨n, starts, rfl | mem⟩)
    · exact .inr ⟨_, .inl ⟨night, rfl⟩, mem⟩
    · exact .inl ⟨n, starts, rfl⟩
    · exact .inr ⟨n, .inr starts, mem⟩
  · rintro (⟨n, starts, rfl⟩ | ⟨m, ⟨night, rfl⟩ | starts, mem⟩)
    · exact .inr ⟨n, starts, .inl rfl⟩
    · exact .inl ⟨night, mem⟩
    · exact .inr ⟨m, starts, .inr mem⟩

theorem State.mem_holdEvents (e : ClockTime × ClockEvent) :
    e ∈ s.holdEvents ↔ ∃ d h, (s.district d).hold = some h ∧ e = (h.expiry, .holdExpiry d) := by
  simp [State.holdEvents, mem_allDistricts, eq_comm]

theorem State.mem_agenda (e : ClockTime × ClockEvent) :
    e ∈ s.agenda t0 t1 ↔
      (e ∈ s.currentNightEvents ++ s.nextNightEvents t0 t1 ∨ e ∈ s.holdEvents) ∧
      ClockTime.Before t0 e.1 ∧ ClockTime.NotAfter e.1 t1 := by
  unfold State.agenda
  rw [List.mem_filter, List.mem_append, inSpan_iff]

theorem State.start_mem_agenda (x : ClockTime) (n : Nat) :
    (x, .windowStart n) ∈ s.agenda t0 t1 ↔ s.latestStart t0 t1 t1.day = some n ∧ x = s.windowStartOf n := by
  rw [State.mem_agenda, State.mem_boundaries, State.mem_holdEvents]
  constructor
  · rintro ⟨(⟨m, starts, same⟩ | ⟨m, -, mem⟩) | ⟨d, h, -, same⟩, -⟩
    · cases same; exact ⟨starts, rfl⟩
    · rcases (s.mem_closingEvents m _).1 mem with same | ⟨-, same⟩ <;> cases same
    · cases same
  · rintro ⟨starts, rfl⟩
    obtain ⟨after, upTo, -⟩ := (State.latestStart_eq_some starts).1
    exact ⟨.inl (.inl ⟨n, starts, rfl⟩), after, upTo⟩

theorem State.windowEnd_mem_agenda (x : ClockTime) :
    (x, .windowEnd) ∈ s.agenda t0 t1 ↔
      (∃ m, s.Closes t0 t1 m ∧ x = s.windowEndOf m) ∧ ClockTime.Before t0 x ∧ ClockTime.NotAfter x t1 := by
  rw [State.mem_agenda, State.mem_boundaries, State.mem_holdEvents]
  refine and_congr_left fun _ => ⟨?_, ?_⟩
  · rintro ((⟨m, starts, same⟩ | ⟨m, closes, mem⟩) | ⟨d, h, -, same⟩)
    · cases same
    · rcases (s.mem_closingEvents m _).1 mem with same | ⟨-, same⟩ <;> cases same
      exact ⟨m, closes, rfl⟩
    · cases same
  · rintro ⟨m, closes, rfl⟩
    exact .inl (.inr ⟨m, closes, (s.mem_closingEvents m _).2 (.inl rfl)⟩)

theorem State.graceExpiry_mem_agenda (x : ClockTime) :
    (x, .graceExpiry) ∈ s.agenda t0 t1 ↔
      (s.nck.grace ≠ 0 ∧ ∃ m, s.Closes t0 t1 m ∧ x = s.graceExpiryOf m) ∧ ClockTime.Before t0 x ∧ ClockTime.NotAfter x t1 := by
  rw [State.mem_agenda, State.mem_boundaries, State.mem_holdEvents]
  refine and_congr_left fun _ => ⟨?_, ?_⟩
  · rintro ((⟨m, starts, same⟩ | ⟨m, closes, mem⟩) | ⟨d, h, -, same⟩)
    · cases same
    · rcases (s.mem_closingEvents m _).1 mem with same | ⟨grace, same⟩ <;> cases same
      exact ⟨grace, m, closes, rfl⟩
    · cases same
  · rintro ⟨grace, m, closes, rfl⟩
    exact .inl (.inr ⟨m, closes, (s.mem_closingEvents m _).2 (.inr ⟨grace, rfl⟩)⟩)

theorem State.holdExpiry_mem_agenda (x : ClockTime) (d : District) :
    (x, .holdExpiry d) ∈ s.agenda t0 t1 ↔
      (s.district d).hold.map (·.expiry) = some x ∧ ClockTime.Before t0 x ∧ ClockTime.NotAfter x t1 := by
  rw [State.mem_agenda, State.mem_boundaries, State.mem_holdEvents]
  refine and_congr_left fun _ => ⟨?_, ?_⟩
  · rintro ((⟨m, starts, same⟩ | ⟨m, closes, mem⟩) | ⟨d', h, held, same⟩)
    · cases same
    · rcases (s.mem_closingEvents m _).1 mem with same | ⟨-, same⟩ <;> cases same
    · cases same; rw [held]; rfl
  · intro held
    obtain ⟨h, hold, rfl⟩ := Option.map_eq_some_iff.1 held
    exact .inr ⟨d, h, hold, rfl⟩

end

/-! ## No event twice -/

theorem State.closingEvents_nodup (s : State) (n : Nat) : (s.closingEvents n).Nodup := by
  unfold State.closingEvents
  split <;> simp

theorem State.holdEvents_nodup (s : State) : s.holdEvents.Nodup := by
  refine List.Nodup.filterMap (fun d e x mem mem' => ?_) nodup_allDistricts
  obtain ⟨h, -, rfl⟩ := Option.map_eq_some_iff.1 (Option.mem_def.1 mem)
  obtain ⟨h', -, same⟩ := Option.map_eq_some_iff.1 (Option.mem_def.1 mem')
  exact (ClockEvent.holdExpiry.inj (Prod.mk.inj same).2).symm

/-- A night that the span opens is later than the night before it (R4). -/
theorem State.lt_of_eligible {s : State} {n m : Nat} (fit : s.eligible n = true) (night : s.nck.nightDay = some m) : m < n := by
  simp only [State.eligible, night, Bool.and_eq_true, decide_eq_true_eq] at fit
  exact fit.1

theorem State.fits_of_eligible {s : State} {n : Nat} (fit : s.eligible n = true) :
    ClockTime.NotAfter (s.graceExpiryOf n) lastMinute := by
  simp only [State.eligible, Bool.and_eq_true, decide_eq_true_eq] at fit
  exact fit.2

/-- The closing events of different nights are different. -/
theorem State.closingEvents_disjoint (s : State) {m n : Nat} (other : m ≠ n) : (s.closingEvents m).Disjoint (s.closingEvents n) := by
  intro e mem mem'
  rcases (s.mem_closingEvents m e).1 mem with rfl | ⟨-, rfl⟩ <;> rcases (s.mem_closingEvents n _).1 mem' with same | ⟨-, same⟩
  · have total := congrArg ClockTime.total (Prod.mk.inj same).1
    simp only [State.windowEndOf_total] at total
    omega
  · cases (Prod.mk.inj same).2
  · cases (Prod.mk.inj same).2
  · have total := congrArg ClockTime.total (Prod.mk.inj same).1
    simp only [State.graceExpiryOf_total] at total
    omega

theorem State.agenda_nodup {s : State} {t0 t1 : ClockTime} (night : s.nightInProgress = true → s.nck.nightDay ≠ none) :
    (s.agenda t0 t1).Nodup := by
  unfold State.agenda
  refine List.Nodup.filter _ (List.nodup_append'.2 ⟨List.nodup_append'.2 ⟨?_, ?_, ?_⟩, s.holdEvents_nodup, ?_⟩)
  · unfold State.currentNightEvents
    split
    · exact s.closingEvents_nodup _
    · exact List.nodup_nil
  · unfold State.nextNightEvents
    split
    next n _ =>
      refine List.nodup_cons.2 ⟨fun mem => ?_, s.closingEvents_nodup n⟩
      rcases (s.mem_closingEvents n _).1 mem with same | ⟨-, same⟩ <;> cases (Prod.mk.inj same).2
    next => exact List.nodup_nil
  · unfold State.currentNightEvents State.nextNightEvents
    split
    next inProgress =>
      split
      next n starts =>
        obtain ⟨m, day⟩ := Option.ne_none_iff_exists'.1 (night inProgress)
        have later := State.lt_of_eligible (State.latestStart_eq_some starts).1.2.2 day
        rw [day]
        refine List.disjoint_cons_right.2 ⟨fun mem => ?_, s.closingEvents_disjoint (by simpa using later.ne)⟩
        rcases (s.mem_closingEvents _ _).1 mem with same | ⟨-, same⟩ <;> cases (Prod.mk.inj same).2
      next => exact List.disjoint_nil_right _
    next => exact List.disjoint_nil_left _
  · intro e boundary hold
    obtain ⟨d, h, -, rfl⟩ := (s.mem_holdEvents e).1 hold
    rcases (s.mem_boundaries t0 t1 _).1 boundary with ⟨n, -, same⟩ | ⟨m, -, mem⟩
    · cases (Prod.mk.inj same).2
    · rcases (s.mem_closingEvents m _).1 mem with same | ⟨-, same⟩ <;> cases (Prod.mk.inj same).2

/-! ## Where the night stands when a span begins (R5, R12) -/

/-- The agenda of a span from a time at which the night stood where its phase puts it. -/
theorem State.onAgenda_agenda {s : State} {t0 t1 : ClockTime} (fits : s.WindowFits) (proper0 : t0.Proper) (proper1 : t1.Proper)
    (later : t0.total ≤ t1.total) (night : s.nightInProgress = true → s.nck.nightDay ≠ none)
    (stands : s.StandsAt s.nck.phase s.nck.nightDay t0) :
    OnAgenda s t1 (s.agenda t0 t1) s.nck.phase s.nck.nightDay := by
  have span : ∀ x : ClockTime, x.Proper → (ClockTime.Before t0 x ∧ ClockTime.NotAfter x t1 ↔ t0.total < x.total ∧ x.total ≤ t1.total) :=
    fun x proper => by rw [ClockTime.before_iff proper0 proper, ClockTime.notAfter_iff proper proper1]
  have wend : ∀ x, (x, ClockEvent.windowEnd) ∈ s.agenda t0 t1 ↔
      (∃ m, s.Closes t0 t1 m ∧ x = s.windowEndOf m) ∧ t0.total < x.total ∧ x.total ≤ t1.total := fun x => by
    rw [State.windowEnd_mem_agenda]
    refine and_congr_right ?_
    rintro ⟨m, -, rfl⟩
    exact span _ (s.windowEndOf_proper m)
  have grace : ∀ x, (x, ClockEvent.graceExpiry) ∈ s.agenda t0 t1 ↔
      (s.nck.grace ≠ 0 ∧ ∃ m, s.Closes t0 t1 m ∧ x = s.graceExpiryOf m) ∧ t0.total < x.total ∧ x.total ≤ t1.total := fun x => by
    rw [State.graceExpiry_mem_agenda]
    refine and_congr_right ?_
    rintro ⟨-, m, -, rfl⟩
    exact span _ (s.graceExpiryOf_proper m)
  have starts : ∀ n, s.latestStart t0 t1 t1.day = some n →
      t0.total < (s.windowStartOf n).total ∧ (s.windowStartOf n).total ≤ t1.total := fun n found => by
    obtain ⟨after, upTo, -⟩ := (State.latestStart_eq_some found).1
    exact (span _ (State.windowStartOf_proper fits n)).1 ⟨after, upTo⟩
  have afterNight : ∀ n m, s.latestStart t0 t1 t1.day = some n → s.nck.nightDay = some m → m < n := fun n m found day =>
    State.lt_of_eligible (State.latestStart_eq_some found).1.2.2 day
  have closes_ge : ∀ m, s.nck.nightDay = some m → ∀ k, s.Closes t0 t1 k → m ≤ k := by
    rintro m day k (⟨-, rfl⟩ | found)
    · rw [day]; exact le_refl _
    · exact (afterNight k m found day).le
  have endsAhead : ∀ m, s.Closes t0 t1 m → t0.total < (s.windowEndOf m).total → EndsAhead s t1 (s.agenda t0 t1) m := by
    intro m closes before
    have graceAfter : (s.windowEndOf m).total ≤ (s.graceExpiryOf m).total := by
      rw [State.graceExpiryOf_total, State.windowEndOf_total]; omega
    refine ⟨?_, fun g => ?_⟩
    · by_cases past : t1.total < (s.windowEndOf m).total
      · exact .inr past
      · exact .inl ((wend _).2 ⟨⟨m, closes, rfl⟩, before, by omega⟩)
    · by_cases past : t1.total < (s.graceExpiryOf m).total
      · exact .inr past
      · exact .inl ((grace _).2 ⟨⟨g, m, closes, rfl⟩, by omega, by omega⟩)
  have current : ∀ m, s.nightInProgress = true → s.nck.nightDay = some m → s.Closes t0 t1 m := fun m inProgress day =>
    .inl ⟨inProgress, by rw [day]; rfl⟩
  refine ⟨State.agenda_nodup night, fun x n mem => ?_, fun x n y m mem mem' => ?_, fun x mem => ?_, fun x mem => ?_,
    fun c => ?_, fun c => ?_, fun c => ?_⟩
  · obtain ⟨found, rfl⟩ := (s.start_mem_agenda t0 t1 x n).1 mem
    obtain ⟨after, upTo⟩ := starts n found
    refine ⟨rfl, upTo, fun m => afterNight n m found, State.fits_of_eligible (State.latestStart_eq_some found).1.2.2,
      endsAhead n (.inr found) ?_⟩
    simp only [State.windowEndOf_total, State.windowStartOf_total] at *
    omega
  · obtain ⟨found, -⟩ := (s.start_mem_agenda t0 t1 x n).1 mem
    obtain ⟨found', -⟩ := (s.start_mem_agenda t0 t1 y m).1 mem'
    exact Option.some.inj (found.symm.trans found')
  · obtain ⟨⟨m, -, same⟩, -, upTo⟩ := (wend x).1 mem
    exact ⟨upTo, m, same⟩
  · obtain ⟨⟨g, m, -, same⟩, -, upTo⟩ := (grace x).1 mem
    exact ⟨upTo, g, m, same⟩
  · have inProgress : s.nightInProgress = true := s.nightInProgress_iff.2 (.inl c)
    obtain ⟨m, day, begun, before⟩ := stands.collecting c
    refine ⟨m, day, by omega, endsAhead m (current m inProgress day) before, fun x mem => ?_, fun x mem => ?_⟩
    · obtain ⟨⟨k, closes, rfl⟩, -⟩ := (wend x).1 mem
      have := closes_ge m day k closes
      simp only [State.windowEndOf_total]
      omega
    · obtain ⟨⟨-, k, closes, rfl⟩, -⟩ := (grace x).1 mem
      have := closes_ge m day k closes
      simp only [State.windowEndOf_total, State.graceExpiryOf_total]
      omega
  · have inProgress : s.nightInProgress = true := s.nightInProgress_iff.2 (.inr (.inl c))
    obtain ⟨m, day, begun, before⟩ := stands.settling c
    have grace_pos : s.nck.grace ≠ 0 := by
      simp only [State.windowEndOf_total, State.graceExpiryOf_total] at begun before
      omega
    refine ⟨m, day, by omega, grace_pos, ?_, fun x mem => ?_⟩
    · by_cases past : t1.total < (s.graceExpiryOf m).total
      · exact .inr past
      · exact .inl ((grace _).2 ⟨⟨grace_pos, m, current m inProgress day, rfl⟩, before, by omega⟩)
    · obtain ⟨⟨-, k, closes, rfl⟩, -⟩ := (grace x).1 mem
      have := closes_ge m day k closes
      simp only [State.graceExpiryOf_total]
      omega
  · obtain ⟨m, day, begun⟩ := stands.closing c
    exact ⟨m, day, by omega⟩

/-- The law of the clock's place in the night, by its total minutes. -/
theorem nightPositionLaw_iff {s : State} (fits : s.WindowFits) (proper : s.nck.clock.Proper)
    (night : s.nightInProgress = true → s.nck.nightDay ≠ none) :
    NightPositionLaw s ↔ s.StandsAt s.nck.phase s.nck.nightDay s.nck.clock := by
  have start : ∀ n, ClockTime.NotAfter (s.windowStartOf n) s.nck.clock ↔ (s.windowStartOf n).total ≤ s.nck.clock.total := fun n =>
    ClockTime.notAfter_iff (State.windowStartOf_proper fits n) proper
  have wend : ∀ n, ClockTime.NotAfter (s.windowEndOf n) s.nck.clock ↔ (s.windowEndOf n).total ≤ s.nck.clock.total := fun n =>
    ClockTime.notAfter_iff (s.windowEndOf_proper n) proper
  have beforeEnd : ∀ n, ClockTime.Before s.nck.clock (s.windowEndOf n) ↔ s.nck.clock.total < (s.windowEndOf n).total := fun n =>
    ClockTime.before_iff proper (s.windowEndOf_proper n)
  have beforeGrace : ∀ n, ClockTime.Before s.nck.clock (s.graceExpiryOf n) ↔ s.nck.clock.total < (s.graceExpiryOf n).total := fun n =>
    ClockTime.before_iff proper (s.graceExpiryOf_proper n)
  have some_night : ∀ {P : Nat → Prop} [DecidablePred P], s.nightInProgress = true →
      (s.nck.nightDay.all (fun n => decide (P n)) = true ↔ ∃ m, s.nck.nightDay = some m ∧ P m) := by
    intro P _ inProgress
    obtain ⟨m, day⟩ := Option.ne_none_iff_exists'.1 (night inProgress)
    rw [day]; simp
  unfold NightPositionLaw
  simp only [start, wend, beforeEnd, beforeGrace]
  constructor
  · rintro ⟨collecting, settling, closing⟩
    exact ⟨fun c => (some_night (s.nightInProgress_iff.2 (.inl c))).1 (collecting c),
      fun c => (some_night (s.nightInProgress_iff.2 (.inr (.inl c)))).1 (settling c),
      fun c => (some_night (s.nightInProgress_iff.2 (.inr (.inr c)))).1 (closing c)⟩
  · rintro ⟨collecting, settling, closing⟩
    exact ⟨fun c => (some_night (s.nightInProgress_iff.2 (.inl c))).2 (collecting c),
      fun c => (some_night (s.nightInProgress_iff.2 (.inr (.inl c)))).2 (settling c),
      fun c => (some_night (s.nightInProgress_iff.2 (.inr (.inr c)))).2 (closing c)⟩

end Sys2Proof.Machine
end

section
/-!
PROOF. The minute event (R2, R5, R18).
-/

namespace Sys2Proof.Machine

/-! ## A span of one minute -/

/-- The minute after a clock time, as R2 counts it. -/
theorem ClockTime.plus_one {t : ClockTime} (proper : t.Proper) :
    t.plus 1 = if t.minute = 1439 then ⟨t.day + 1, 0⟩ else ⟨t.day, t.minute + 1⟩ := by
  unfold ClockTime.plus ClockTime.Proper at *
  split
  next last => rw [last]
  next early =>
    have day : (t.minute + 1) / 1440 = 0 := by omega
    have minute : (t.minute + 1) % 1440 = t.minute + 1 := by omega
    rw [day, minute, Nat.add_zero]

/-- Only the next minute itself lies in the span up to it. -/
theorem span_one_iff {t x : ClockTime} (proper : t.Proper) (proper' : x.Proper) :
    (ClockTime.Before t x ∧ ClockTime.NotAfter x (t.plus 1)) ↔ x = t.plus 1 := by
  have next := ClockTime.plus_proper t 1
  rw [ClockTime.before_iff proper proper', ClockTime.notAfter_iff proper' next, ClockTime.plus_total]
  constructor
  · rintro ⟨after, upTo⟩
    exact ClockTime.eq_of_total proper' next (by rw [ClockTime.plus_total]; omega)
  · rintro rfl
    rw [ClockTime.plus_total]; omega

section
variable {s : State} {t u : ClockTime} (fits : s.WindowFits) (proper : t.Proper) (next : u = t.plus 1)
include fits proper next

theorem latestStart_one_iff (n : Nat) :
    s.latestStart t u u.day = some n ↔ n = u.day ∧ u = s.windowStartOf u.day ∧ s.eligible u.day = true := by
  have starts : ∀ k, s.StartsIn t u k ↔ k = u.day ∧ u = s.windowStartOf u.day ∧ s.eligible u.day = true := by
    intro k
    rw [State.StartsIn, ← and_assoc, next, span_one_iff proper (State.windowStartOf_proper fits k), ← next]
    constructor
    · rintro ⟨here, fit⟩
      have day : k = u.day := congrArg ClockTime.day here
      exact ⟨day, day ▸ here.symm, day ▸ fit⟩
    · rintro ⟨rfl, here, fit⟩
      exact ⟨here.symm, fit⟩
  constructor
  · intro found
    exact (starts n).1 (State.latestStart_eq_some found).1
  · rintro ⟨rfl, here, fit⟩
    rcases Option.eq_none_or_eq_some (s.latestStart t u u.day) with missed | ⟨m, found⟩
    · exact absurd ((starts _).2 ⟨rfl, here, fit⟩) (State.latestStart_eq_none missed _ (le_refl _))
    · rw [found, ((starts m).1 (State.latestStart_eq_some found).1).1]

theorem windowStart_mem_minute (x : ClockTime) (n : Nat) :
    (x, .windowStart n) ∈ s.agenda t u ↔ x = u ∧ n = u.day ∧ u = s.windowStartOf u.day ∧ s.eligible u.day = true := by
  rw [State.start_mem_agenda, latestStart_one_iff fits proper next]
  constructor
  · rintro ⟨⟨rfl, here, fit⟩, at_start⟩
    exact ⟨at_start.trans here.symm, rfl, here, fit⟩
  · rintro ⟨rfl, rfl, here, fit⟩
    exact ⟨⟨rfl, here, fit⟩, here⟩

/-- A night that the minute opens closes later. -/
theorem closes_minute {m : Nat} {x : ClockTime} (closes : s.Closes t u m) (night : s.nightInProgress = true → s.nck.nightDay ≠ none)
    (later : (s.windowStartOf m).total < x.total) (now : x = u) : s.nightInProgress = true ∧ s.nck.nightDay = some m := by
  rcases closes with ⟨inProgress, day⟩ | found
  · obtain ⟨k, is⟩ := Option.ne_none_iff_exists'.1 (night inProgress)
    rw [is] at day ⊢
    exact ⟨inProgress, congrArg some day⟩
  · obtain ⟨rfl, here, -⟩ := (latestStart_one_iff fits proper next m).1 found
    rw [now, ← here] at later
    exact absurd later (lt_irrefl _)

theorem windowEnd_mem_minute (night : s.nightInProgress = true → s.nck.nightDay ≠ none) (x : ClockTime) :
    (x, .windowEnd) ∈ s.agenda t u ↔ x = u ∧ s.nightInProgress = true ∧ s.nck.nightDay.map s.windowEndOf = some u := by
  rw [State.windowEnd_mem_agenda, next]
  constructor
  · rintro ⟨⟨m, closes, rfl⟩, span⟩
    have now := (span_one_iff proper (s.windowEndOf_proper m)).1 span
    rw [← next] at closes now ⊢
    obtain ⟨inProgress, day⟩ := closes_minute fits proper next closes night
      (by rw [State.windowEndOf_total, State.windowStartOf_total]; omega) now
    exact ⟨now, inProgress, by rw [day, ← now]; rfl⟩
  · rintro ⟨rfl, inProgress, at_end⟩
    obtain ⟨m, day, at_end⟩ := Option.map_eq_some_iff.1 at_end
    refine ⟨⟨m, .inl ⟨inProgress, by rw [day]; rfl⟩, at_end.symm⟩, (span_one_iff proper (ClockTime.plus_proper _ _)).2 rfl⟩

theorem graceExpiry_mem_minute (night : s.nightInProgress = true → s.nck.nightDay ≠ none) (x : ClockTime) :
    (x, .graceExpiry) ∈ s.agenda t u ↔
      x = u ∧ s.nck.grace ≠ 0 ∧ s.nightInProgress = true ∧ s.nck.nightDay.map s.graceExpiryOf = some u := by
  rw [State.graceExpiry_mem_agenda, next]
  constructor
  · rintro ⟨⟨grace, m, closes, rfl⟩, span⟩
    have now := (span_one_iff proper (s.graceExpiryOf_proper m)).1 span
    rw [← next] at closes now ⊢
    obtain ⟨inProgress, day⟩ := closes_minute fits proper next closes night
      (by rw [State.graceExpiryOf_total, State.windowStartOf_total]; omega) now
    exact ⟨now, grace, inProgress, by rw [day, ← now]; rfl⟩
  · rintro ⟨rfl, grace, inProgress, at_end⟩
    obtain ⟨m, day, at_end⟩ := Option.map_eq_some_iff.1 at_end
    refine ⟨⟨grace, m, .inl ⟨inProgress, by rw [day]; rfl⟩, at_end.symm⟩, (span_one_iff proper (ClockTime.plus_proper _ _)).2 rfl⟩

omit fits in
theorem holdExpiry_mem_minute (holds : ∀ d h, (s.district d).hold = some h → h.expiry.Proper) (x : ClockTime) (d : District) :
    (x, .holdExpiry d) ∈ s.agenda t u ↔ x = u ∧ (s.district d).hold.map (·.expiry) = some u := by
  rw [State.holdExpiry_mem_agenda, next]
  constructor
  · rintro ⟨expiry, span⟩
    obtain ⟨h, held, rfl⟩ := Option.map_eq_some_iff.1 expiry
    have now := (span_one_iff proper (holds d h held)).1 span
    exact ⟨now, now ▸ expiry⟩
  · rintro ⟨rfl, expiry⟩
    exact ⟨expiry, (span_one_iff proper (ClockTime.plus_proper _ _)).2 rfl⟩

end

/-! ## One event, or none -/

theorem State.takeSpan_nothing {s : State} {take : State → ClockEvent → State} {t0 t1 : ClockTime}
    (nothing : ∀ x k, (x, k) ∉ s.agenda t0 t1) : s.takeSpan take t0 t1 = s := by
  have empty : s.agenda t0 t1 = [] := List.eq_nil_iff_forall_not_mem.2 fun e => nothing e.1 e.2
  rw [State.takeSpan, empty]
  rfl

theorem State.takeSpan_one {s : State} {take : State → ClockEvent → State} {t0 t1 x : ClockTime} {k : ClockEvent}
    (nodup : (s.agenda t0 t1).Nodup) (only : ∀ y j, (y, j) ∈ s.agenda t0 t1 ↔ y = x ∧ j = k) : s.takeSpan take t0 t1 = take s k := by
  have one : [(x, k)].Perm (s.agenda t0 t1) := by
    refine (List.perm_ext_iff_of_nodup (List.nodup_singleton _) nodup).2 fun e => ?_
    rw [List.mem_singleton, only e.1 e.2, Prod.ext_iff]
  exact State.runAgenda_sorted take _ one (List.pairwise_singleton _ _) (le_refl _) s

/-- The clock one minute on, with the divider at 0. -/
def State.minuteOn (s : State) (u : ClockTime) : State := { s with nck.clock := u, nck.divider := 0 }

theorem State.minuteEvent_of_set {s : State} {u : ClockTime} (set : s.nck.clockSet = true) (early : s.nck.clock ≠ lastMinute)
    (next : u = s.nck.clock.plus 1) : s.minuteEvent = (s.minuteOn u).takeSpan State.reach s.nck.clock u := by
  unfold State.minuteEvent
  rw [if_pos set, if_neg early, next]
  rfl

/-- The window start of a later night is no boundary of the night before; window end and grace expiry are apart unless GRACE is 0. -/
theorem State.boundaries_apart {s : State} (fits : s.WindowFits) (m : Nat) :
    (∀ n, m < n → s.windowEndOf m ≠ s.windowStartOf n ∧ s.graceExpiryOf m ≠ s.windowStartOf n) ∧
    (s.nck.grace ≠ 0 → s.windowEndOf m ≠ s.graceExpiryOf m) := by
  refine ⟨fun n later => ⟨fun same => ?_, fun same => ?_⟩, fun grace same => ?_⟩
  all_goals
    have total := congrArg ClockTime.total same
    simp only [State.windowEndOf_total, State.windowStartOf_total, State.graceExpiryOf_total] at total
    omega

theorem expireIfReached_of_reached {s : State} {d : District} {h : Hold} (held : (s.district d).hold = some h)
    (reached : ClockTime.NotAfter h.expiry s.nck.clock) : State.expireIfReached s.nck.clock s d = s.expireHold d := by
  unfold State.expireIfReached
  rw [held]
  exact if_pos reached

/-- Settles O5: what falls in the span of one minute falls at its end; each kind of event excludes the others as the claim says. -/
theorem minuteEventTakesWhatFallsDue : Obligations.MinuteEventTakesWhatFallsDue := by
  intro s u clock districts run u_eq arrived noHold noEnd noStart
  obtain ⟨-, proper, -, w1, w2, w3, w4, w5, -, -, night, -⟩ := clock
  have next : u = s.nck.clock.plus 1 := u_eq.trans (ClockTime.plus_one proper).symm
  have holds : ∀ d h, (s.district d).hold = some h → h.expiry.Proper := fun d h held => by
    have law := (districts d).2
    rw [held] at law
    simp only [Option.all_some, Bool.and_eq_true, decide_eq_true_eq] at law
    exact law.2
  have taken_ : exec .minuteEvent s = .next s.minuteEvent := by
    change Host.Outcome.next (if s.running then s.minuteEvent else s) = _
    rw [if_pos run]
  have starts := windowStart_mem_minute (s := s.minuteOn u) ⟨w1, w2, w3, w4, w5⟩ proper next
  have wends := windowEnd_mem_minute (s := s.minuteOn u) ⟨w1, w2, w3, w4, w5⟩ proper next night
  have graces := graceExpiry_mem_minute (s := s.minuteOn u) ⟨w1, w2, w3, w4, w5⟩ proper next night
  have expiries := holdExpiry_mem_minute (s := s.minuteOn u) proper next holds
  have nodup : ((s.minuteOn u).agenda s.nck.clock u).Nodup := State.agenda_nodup night
  have noWindowEnd : noEnd → ∀ x, (x, ClockEvent.windowEnd) ∉ (s.minuteOn u).agenda s.nck.clock u := fun none_ends x mem => by
    obtain ⟨-, inProgress, at_end⟩ := (wends x).1 mem
    exact (none_ends inProgress).1 at_end
  have noGrace : noEnd → ∀ x, (x, ClockEvent.graceExpiry) ∉ (s.minuteOn u).agenda s.nck.clock u := fun none_ends x mem => by
    obtain ⟨-, -, inProgress, at_end⟩ := (graces x).1 mem
    exact (none_ends inProgress).2 at_end
  have noWindowStart : noStart → ∀ x n, (x, ClockEvent.windowStart n) ∉ (s.minuteOn u).agenda s.nck.clock u := fun none_starts x n mem => by
    obtain ⟨-, -, here, fit⟩ := (starts x n).1 mem
    exact Bool.noConfusion (fit.symm.trans (none_starts here))
  have noExpiry : noHold → ∀ x d, (x, ClockEvent.holdExpiry d) ∉ (s.minuteOn u).agenda s.nck.clock u := fun none_held x d mem =>
    none_held d ((expiries x d).1 mem).2
  have fits : s.WindowFits := ⟨w1, w2, w3, w4, w5⟩
  have started : ¬ noStart → u = s.windowStartOf u.day ∧ s.eligible u.day = true := fun starts => by
    obtain ⟨here, fit⟩ := Classical.not_imp.1 starts
    exact ⟨here, Bool.not_eq_false _ ▸ fit⟩
  have startApart : u = s.windowStartOf u.day → s.eligible u.day = true →
      s.nck.nightDay.map s.windowEndOf ≠ some u ∧ s.nck.nightDay.map s.graceExpiryOf ≠ some u := fun here fit => by
    refine ⟨fun at_end => ?_, fun at_end => ?_⟩ <;> obtain ⟨m, day, same⟩ := Option.map_eq_some_iff.1 at_end
    · exact ((State.boundaries_apart fits m).1 u.day (State.lt_of_eligible fit day)).1 (same.trans here)
    · exact ((State.boundaries_apart fits m).1 u.day (State.lt_of_eligible fit day)).2 (same.trans here)
  have endApart : s.nck.grace ≠ 0 → s.nck.nightDay.map s.windowEndOf = some u → s.nck.nightDay.map s.graceExpiryOf ≠ some u :=
    fun grace at_end at_grace => by
      obtain ⟨m, day, same⟩ := Option.map_eq_some_iff.1 at_end
      rw [day] at at_grace
      exact (State.boundaries_apart fits m).2 grace (same.trans (Option.some.inj at_grace).symm)
  refine ⟨fun unset => ?_, fun set last => ?_, fun set early => ?_⟩
  · rw [taken_, State.minuteEvent, if_neg (by rw [unset]; decide)]
  · rw [taken_, State.minuteEvent, if_pos set, if_pos (show s.nck.clock = lastMinute from last)]
  rw [taken_, State.minuteEvent_of_set set early next]
  refine ⟨fun none_held none_ends none_starts => ?_, fun none_held starting => ?_, fun none_held inProgress ending => ?_,
    fun none_held inProgress grace ending => ?_, fun none_ends none_starts d held alone => ?_⟩
  · rw [State.takeSpan_nothing]
    · rfl
    · intro x k
      cases k with
      | windowStart n => exact noWindowStart none_starts x n
      | windowEnd => exact noWindowEnd none_ends x
      | graceExpiry => exact noGrace none_ends x
      | holdExpiry d => exact noExpiry none_held x d
  · obtain ⟨here, fit⟩ := started starting
    obtain ⟨notEnd, notGrace⟩ := startApart here fit
    rw [State.takeSpan_one (x := u) (k := .windowStart u.day) nodup]
    · change _ = Host.Outcome.next (if s.running then
        (if u = s.windowStartOf u.day ∧ s.eligible u.day = true then (s.minuteOn u).reachWindowStart u.day else s.minuteOn u) else _)
      rw [if_pos run, if_pos ⟨here, fit⟩]
      rfl
    · intro x k
      cases k with
      | windowStart n =>
        rw [starts]
        exact ⟨fun h => ⟨h.1, by rw [h.2.1]⟩, fun h => ⟨h.1, ClockEvent.windowStart.inj h.2, here, fit⟩⟩
      | windowEnd => exact iff_of_false (fun mem => notEnd ((wends x).1 mem).2.2) fun h => ClockEvent.noConfusion h.2
      | graceExpiry => exact iff_of_false (fun mem => notGrace ((graces x).1 mem).2.2.2) fun h => ClockEvent.noConfusion h.2
      | holdExpiry d => exact iff_of_false (noExpiry none_held x d) fun h => ClockEvent.noConfusion h.2
  · have none_starts : noStart := fun here => Bool.eq_false_iff.2 fun fit => (startApart here fit).1 ending
    obtain ⟨m, day, same⟩ := Option.map_eq_some_iff.1 ending
    rw [State.takeSpan_one (x := u) (k := .windowEnd) nodup]
    · exact (exec_windowEnd_at (s := s.minuteOn u) run day same.symm).symm
    · intro x k
      cases k with
      | windowStart n => exact iff_of_false (noWindowStart none_starts x n) fun h => ClockEvent.noConfusion h.2
      | windowEnd =>
        rw [wends]
        exact ⟨fun h => ⟨h.1, rfl⟩, fun h => ⟨h.1, inProgress, ending⟩⟩
      | graceExpiry =>
        refine iff_of_false (fun mem => ?_) fun h => ClockEvent.noConfusion h.2
        obtain ⟨-, grace, -, at_grace⟩ := (graces x).1 mem
        exact endApart grace ending at_grace
      | holdExpiry d => exact iff_of_false (noExpiry none_held x d) fun h => ClockEvent.noConfusion h.2
  · have none_starts : noStart := fun here => Bool.eq_false_iff.2 fun fit => (startApart here fit).2 ending
    obtain ⟨m, day, same⟩ := Option.map_eq_some_iff.1 ending
    rw [State.takeSpan_one (x := u) (k := .graceExpiry) nodup]
    · exact (exec_graceExpiry_at (s.minuteOn u) m run day same.symm).symm
    · intro x k
      cases k with
      | windowStart n => exact iff_of_false (noWindowStart none_starts x n) fun h => ClockEvent.noConfusion h.2
      | windowEnd => exact iff_of_false (fun mem => endApart grace ((wends x).1 mem).2.2 ending) fun h => ClockEvent.noConfusion h.2
      | graceExpiry =>
        rw [graces]
        exact ⟨fun h => ⟨h.1, rfl⟩, fun h => ⟨h.1, grace, inProgress, ending⟩⟩
      | holdExpiry d => exact iff_of_false (noExpiry none_held x d) fun h => ClockEvent.noConfusion h.2
  · obtain ⟨h, hold, expiry⟩ := Option.map_eq_some_iff.1 held
    rw [State.takeSpan_one (x := u) (k := .holdExpiry d) nodup]
    · change _ = Host.Outcome.next (if s.running then State.expireIfReached (s.minuteOn u).nck.clock (s.minuteOn u) d else _)
      rw [if_pos run, expireIfReached_of_reached (s := s.minuteOn u) hold (expiry ▸ ClockTime.notAfter_refl _)]
      rfl
    · intro x k
      cases k with
      | windowStart n => exact iff_of_false (noWindowStart none_starts x n) fun h => ClockEvent.noConfusion h.2
      | windowEnd => exact iff_of_false (noWindowEnd none_ends x) fun h => ClockEvent.noConfusion h.2
      | graceExpiry => exact iff_of_false (noGrace none_ends x) fun h => ClockEvent.noConfusion h.2
      | holdExpiry e =>
        rw [expiries]
        constructor
        · rintro ⟨now, held'⟩
          exact ⟨now, congrArg _ (not_not.1 fun other => alone e other held')⟩
        · rintro ⟨now, same⟩
          exact ⟨now, ClockEvent.holdExpiry.inj same ▸ held⟩

end Sys2Proof.Machine
end

section
/-!
PROOF. SET TIME to a later time: every event of the span at its own time, each followed by its choice (R12, R18, R85).
-/

namespace Sys2Proof.Machine

/-! ## Operations that do not read the clock -/

/-- An operation that reads neither link, waiting commands nor clock can be taken at any clock time. -/
theorem clockAt_of_apart {f : State → State}
    (apart : ∀ s l q now ticks, f (State.apart s l q now ticks) = (f s).apart l q now ticks) (s : State) (c : ClockTime) :
    f (s.clockAt c) = (f s).clockAt c := by
  have own : f s = (f s).apart s.link s.pending s.nck.clock s.nck.divider := apart s s.link s.pending s.nck.clock s.nck.divider
  have link : (f s).link = s.link := (congrArg State.link own).trans rfl
  have pending : (f s).pending = s.pending := (congrArg State.pending own).trans rfl
  have divider : (f s).nck.divider = s.nck.divider := (congrArg (fun u : State => u.nck.divider) own).trans rfl
  rw [State.clockAt_eq_apart, apart, State.clockAt_eq_apart, link, pending, divider]

theorem State.reach_clockAt (s : State) (e : ClockEvent) (c : ClockTime) : (s.clockAt c).reach e = (s.reach e).clockAt c :=
  clockAt_of_apart (f := (State.reach · e)) (fun s l q now ticks => s.reach_apart l q now ticks e) s c

theorem State.choose_clockAt (s : State) (c : ClockTime) : (s.clockAt c).choose = s.choose.clockAt c :=
  clockAt_of_apart (fun s l q now ticks => s.choose_apart l q now ticks) s c

/-! ## What an event leaves of running, unit and holds -/

theorem NightAct.record_hold (r : DistrictRecord) (a : NightAct) : (a.record r).hold = r.hold := by cases a <;> rfl

/-- What `t` keeps of `s` while the events of a span are taken: it runs on, and a choice became due only with the unit IDLE. -/
structure State.KeepsUnit (s t : State) : Prop where
  running : t.running = s.running
  due : t.choiceDue = true → s.choiceDue = true ∨ t.flight = none

theorem State.openNight_keeps (s : State) (n : Nat) : s.KeepsUnit (s.openNight n) := by
  rw [State.openNight_eq]
  exact ⟨rfl, .inl⟩

theorem State.openNight_hold (s : State) (n : Nat) (d : District) : ((s.openNight n).district d).hold = (s.district d).hold := by
  have acted := s.nightAssigned_acted n
  have districts : (s.openNight n).districts = (s.nightAssigned n).districts := by rw [State.openNight_eq]
  have district : (s.openNight n).district d = (s.nightAssigned n).district d := congrArg (Table.get · d) districts
  rw [district, acted.district, NightAct.record_hold]
  rfl

theorem State.abandonNight_keeps (s : State) : s.KeepsUnit s.abandonNight := by
  have frame := State.abandonNight_eq (s := s) rfl
  generalize s.nightDropped _ = u at frame
  generalize s.abandonNight = t at *
  have running : t.running = s.running := (congrArg State.running frame).trans rfl
  have due : t.choiceDue = false := (congrArg State.choiceDue frame).trans rfl
  exact ⟨running, fun h => Bool.noConfusion (due.symm.trans h)⟩

theorem State.abandonNight_hold (s : State) (d : District) : (s.abandonNight.district d).hold = (s.district d).hold := by
  have frame := State.abandonNight_eq (s := s) rfl
  have drop := s.nightDropped_acted (s.nck.nightDay.getD 0)
  generalize s.abandonNight = t at *
  have districts := congrArg State.districts frame
  dsimp only at districts
  have district : t.district d = (s.nightDropped (s.nck.nightDay.getD 0)).district d := congrArg (Table.get · d) districts
  rw [district, drop.district, NightAct.record_hold]
  rfl

theorem State.KeepsUnit.refl (s : State) : s.KeepsUnit s := ⟨rfl, .inl⟩

theorem State.closeByGrace_keeps (s : State) : s.KeepsUnit s.closeByGrace := by
  have effect := s.closeByGrace_effect
  generalize s.closeByGrace = t at effect ⊢
  have due := congrArg State.choiceDue effect
  have flight : t.flight = s.flight := (congrArg State.flight effect).trans rfl
  dsimp only at due
  refine ⟨(congrArg State.running effect).trans rfl, fun h => ?_⟩
  rw [due, Bool.or_eq_true, decide_eq_true_eq] at h
  exact h.imp id fun joined => flight.trans joined.2

theorem State.completeQueued_keeps (s : State) : s.KeepsUnit s.completeQueued := by
  have effect := s.completeQueued_eq
  generalize s.completeQueued = t at effect ⊢
  have due := congrArg State.choiceDue effect
  have flight : t.flight = s.flight := (congrArg State.flight effect).trans rfl
  dsimp only at due
  refine ⟨(congrArg State.running effect).trans rfl, fun h => ?_⟩
  rw [due, Bool.or_eq_true, decide_eq_true_eq] at h
  exact h.imp id fun joined => flight.trans joined.2

theorem State.nightEndTest_keeps (s : State) : s.KeepsUnit s.nightEndTest := by
  have frame := s.nightEndTest_frame
  generalize s.nightEndTest = t at frame ⊢
  exact ⟨(congrArg State.running frame).trans rfl, fun h => .inl (((congrArg State.choiceDue frame).trans rfl).symm.trans h)⟩

theorem State.KeepsUnit.trans {s t u : State} (first : s.KeepsUnit t) (second : t.KeepsUnit u) (flight : u.flight = t.flight) :
    s.KeepsUnit u :=
  ⟨second.running.trans first.running, fun h =>
    (second.due h).elim (fun due => (first.due due).imp id flight.trans) .inr⟩

theorem State.reachWindowStart_keeps (s : State) (n : Nat) : s.KeepsUnit (s.reachWindowStart n) := by
  unfold State.reachWindowStart
  cases s.nck.phase
  case daytime => exact s.openNight_keeps n
  case closing =>
    have flight : (s.abandonNight.openNight n).flight = s.abandonNight.flight := by rw [State.openNight_eq]
    exact s.abandonNight_keeps.trans (s.abandonNight.openNight_keeps n) flight
  all_goals exact .refl s

theorem State.reachGraceExpiry_keeps (s : State) : s.KeepsUnit s.reachGraceExpiry := by
  unfold State.reachGraceExpiry
  split
  · exact s.closeByGrace_keeps
  · exact .refl s

theorem State.reachWindowEnd_keeps (s : State) : s.KeepsUnit s.reachWindowEnd := by
  by_cases collecting : s.nck.phase = .collecting
  · rw [State.reachWindowEnd_eq collecting]
    split
    · have flight : s.completeQueued.closeByGrace.flight = s.completeQueued.flight := by
        have effect := s.completeQueued.closeByGrace_effect
        generalize s.completeQueued.closeByGrace = t at effect ⊢
        exact (congrArg State.flight effect).trans rfl
      exact s.completeQueued_keeps.trans s.completeQueued.closeByGrace_keeps flight
    · exact s.completeQueued_keeps.trans s.completeQueued.nightEndTest_keeps (by rw [State.nightEndTest_frame])
  · rw [State.reachWindowEnd, if_neg collecting]
    exact .refl s

theorem State.expireHold_keeps (s : State) (d : District) : s.KeepsUnit (s.expireHold d) := by
  rcases Option.eq_none_or_eq_some (s.district d).hold with free | ⟨h, held⟩
  · rw [State.expireHold, free]; exact .refl s
  · have effect := State.expireHold_eq held
    generalize s.expireHold d = t at effect ⊢
    have due := congrArg State.choiceDue effect
    have flight : t.flight = s.flight := (congrArg State.flight effect).trans rfl
    dsimp only at due
    refine ⟨(congrArg State.running effect).trans rfl, fun h => ?_⟩
    rw [due, Bool.or_eq_true, Option.isNone_iff_eq_none] at h
    exact h.imp id flight.trans

theorem State.reach_keeps (s : State) (e : ClockEvent) : s.KeepsUnit (s.reach e) := by
  cases e with
  | windowStart n => exact s.reachWindowStart_keeps n
  | windowEnd => exact s.reachWindowEnd_keeps
  | graceExpiry => exact s.reachGraceExpiry_keeps
  | holdExpiry d => exact s.expireHold_keeps d

theorem State.closeByGrace_hold (s : State) (d : District) : (s.closeByGrace.district d).hold = (s.district d).hold := by
  rw [State.closeByGrace_district]; split <;> rfl

theorem State.completeQueued_hold (s : State) (d : District) : (s.completeQueued.district d).hold = (s.district d).hold := by
  rw [State.completeQueued_district]; split <;> rfl

/-- An event ends no hold but the one that runs out. -/
theorem State.reach_hold (s : State) (e : ClockEvent) (d : District) (other : e ≠ .holdExpiry d) :
    ((s.reach e).district d).hold = (s.district d).hold := by
  cases e with
  | windowStart n =>
    unfold State.reach State.reachWindowStart
    cases s.nck.phase
    case daytime => exact s.openNight_hold n d
    case closing => exact (s.abandonNight.openNight_hold n d).trans (s.abandonNight_hold d)
    all_goals rfl
  | windowEnd =>
    change (s.reachWindowEnd.district d).hold = _
    by_cases collecting : s.nck.phase = .collecting
    · rw [State.reachWindowEnd_eq collecting]
      split
      · rw [State.closeByGrace_hold, State.completeQueued_hold]
      · rw [State.nightEndTest_district, State.completeQueued_hold]
    · rw [State.reachWindowEnd, if_neg collecting]
  | graceExpiry =>
    change (s.reachGraceExpiry.district d).hold = _
    unfold State.reachGraceExpiry
    split
    · exact s.closeByGrace_hold d
    · rfl
  | holdExpiry f =>
    have apart : d ≠ f := fun same => other (by rw [same])
    change ((s.expireHold f).district d).hold = _
    rcases Option.eq_none_or_eq_some (s.district f).hold with free | ⟨h, held⟩
    · rw [State.expireHold, free]
    · rw [State.expireHold_district held, if_neg apart]

theorem State.choose_hold (s : State) (d : District) : (s.choose.district d).hold = (s.district d).hold := by
  unfold State.choose
  split
  · split
    next e _ =>
      refine (congrArg DistrictRecord.hold (State.district_modDistrict { s with choiceDue := false } e.district d _)).trans ?_
      split
      next here => rw [here]; rfl
      next => rfl
    next => rfl
  · rfl

theorem State.choose_running (s : State) : s.choose.running = s.running := by rw [State.choose_frame]

/-! ## One event of a span, taken at its time -/

/-- The row that asserts a clock event. -/
def ClockEvent.row : ClockEvent → Instr
  | .windowStart _ => .windowStart
  | .windowEnd => .windowEnd
  | .graceExpiry => .graceExpiry
  | .holdExpiry d => .holdExpiry d

theorem exec_windowStart_at {u : State} {n : Nat} (run : u.running = true) (clock : u.nck.clock = u.windowStartOf n) (fit : u.eligible n = true) :
    exec .windowStart u = .next (u.reachWindowStart n) := by
  have day : u.nck.clock.day = n := congrArg ClockTime.day clock
  subst day
  change Host.Outcome.next (if u.running then
    (if u.nck.clock = u.windowStartOf u.nck.clock.day ∧ u.eligible u.nck.clock.day = true then u.reachWindowStart u.nck.clock.day else u) else u) = _
  rw [if_pos run, if_pos ⟨clock, fit⟩]

/-- What stands when the events `l` are still to take, of a span up to `t1` begun at `s`. -/
structure State.InSpan (s : State) (t1 : ClockTime) (u : State) (l : List (ClockTime × ClockEvent)) : Prop where
  running : u.running = true
  moved : s.nck.Moved u.nck
  ahead : OnAgenda s t1 l u.nck.phase u.nck.nightDay
  held : ∀ x d, (x, .holdExpiry d) ∈ l → (u.district d).hold.map (·.expiry) = some x

section
variable {s u : State} {t1 : ClockTime} {l : List (ClockTime × ClockEvent)} (h : s.InSpan t1 u l) (fits : s.WindowFits)
include h

theorem State.InSpan.windowStartOf (n : Nat) : u.windowStartOf n = s.windowStartOf n := by
  unfold State.windowStartOf; rw [h.moved]

theorem State.InSpan.windowEndOf (n : Nat) : u.windowEndOf n = s.windowEndOf n := by
  unfold State.windowEndOf State.windowStartOf; rw [h.moved]

theorem State.InSpan.graceExpiryOf (n : Nat) : u.graceExpiryOf n = s.graceExpiryOf n := by
  unfold State.graceExpiryOf State.windowEndOf State.windowStartOf; rw [h.moved]

theorem State.InSpan.grace : u.nck.grace = s.nck.grace := by rw [h.moved]

/-- A window start still to come is eligible when its time is reached. -/
theorem State.InSpan.eligible {x : ClockTime} {n : Nat} (mem : (x, .windowStart n) ∈ l) : u.eligible n = true := by
  obtain ⟨-, -, later, fit, -⟩ := h.ahead.starts x n mem
  unfold State.eligible
  rw [h.graceExpiryOf, decide_eq_true fit, Bool.and_true]
  split
  · rfl
  next m day => exact decide_eq_true (later m day)

/-- The row of the next event, with the clock at its time, is that event. -/
theorem State.InSpan.exec_row {e : ClockTime × ClockEvent} (first : IsFirst l e) :
    exec e.2.row (u.clockAt e.1) = .next ((u.clockAt e.1).reach e.2) := by
  obtain ⟨x, k⟩ := e
  have run : (u.clockAt x).running = true := h.running
  cases k with
  | windowStart n =>
    exact exec_windowStart_at run ((h.ahead.starts x n first.1).1.trans (h.windowStartOf n).symm) (h.eligible first.1)
  | windowEnd =>
    by_cases collecting : u.nck.phase = .collecting
    · obtain ⟨m, day, here⟩ := h.ahead.windowEnd_current first collecting
      exact exec_windowEnd_at run day (here.trans (h.windowEndOf m).symm)
    · have idle : (u.clockAt x).reachWindowEnd = u.clockAt x := if_neg collecting
      change Host.Outcome.next (if (u.clockAt x).running then
        (if (u.clockAt x).atBoundary State.windowEndOf then (u.clockAt x).reachWindowEnd else u.clockAt x) else _) =
        .next (u.clockAt x).reachWindowEnd
      rw [if_pos run, idle, ite_self]
  | graceExpiry =>
    by_cases settling : u.nck.phase = .settling
    · obtain ⟨m, day, here⟩ := h.ahead.graceExpiry_current first settling
      exact exec_graceExpiry_at (u.clockAt x) m run day (here.trans (h.graceExpiryOf m).symm)
    · have idle : (u.clockAt x).reachGraceExpiry = u.clockAt x := if_neg settling
      change Host.Outcome.next (if (u.clockAt x).running then
        (if (u.clockAt x).atBoundary State.graceExpiryOf then (u.clockAt x).reachGraceExpiry else u.clockAt x) else _) =
        .next (u.clockAt x).reachGraceExpiry
      rw [if_pos run, idle, ite_self]
  | holdExpiry d =>
    obtain ⟨hold, held, expiry⟩ := Option.map_eq_some_iff.1 (h.held x d first.1)
    change Host.Outcome.next (if (u.clockAt x).running then State.expireIfReached x (u.clockAt x) d else _) = .next ((u.clockAt x).expireHold d)
    rw [if_pos run]
    exact congrArg _ (expireIfReached_of_reached (s := u.clockAt x) held (expiry ▸ ClockTime.notAfter_refl x))

include fits in
/-- What stands after the next event, with its choice taken or not. -/
theorem State.InSpan.take {e : ClockTime × ClockEvent} (first : IsFirst l e) : s.InSpan t1 (u.reachInJump e.2) (l.erase e) := by
  have moves := u.reach_moves e.2
  rw [h.grace] at moves
  have nck := u.reachInJump_nck e.2
  refine ⟨?_, ?_, ?_, fun x d mem => ?_⟩
  · have running := (u.reach_keeps e.2).running.trans h.running
    unfold State.reachInJump
    split
    · exact (State.choose_running _).trans running
    · exact running
  · rw [nck]; exact h.moved.trans moves.1
  · rw [nck]; exact h.ahead.take fits first moves.2
  · obtain ⟨other, left⟩ := h.ahead.nodup.mem_erase_iff.1 mem
    have expiry := h.held x d left
    have apart : e.2 ≠ .holdExpiry d := fun same => by
      have time : e.1 = x := by
        have e_expiry := h.held e.1 d (same ▸ first.1)
        exact Option.some.inj (e_expiry.symm.trans expiry)
      exact other (by rw [← same, ← time])
    have hold := u.reach_hold e.2 d apart
    unfold State.reachInJump
    split
    · rw [State.choose_hold, hold]; exact expiry
    · rw [hold]; exact expiry

end

/-! ## The whole span -/

/-- A choice due with the unit IDLE is taken, and then none is due. -/
theorem State.choose_done {s : State} (idle : s.choiceDue = true → s.flight = none) : s.choose.choiceDue = false := by
  unfold State.choose
  by_cases due : s.choiceDue = true
  · rw [if_pos (by simp [due, idle due])]
    split <;> rfl
  · have none_due : s.choiceDue = false := Bool.eq_false_iff.2 due
    rw [if_neg (by simp [none_due])]
    exact none_due

theorem State.choose_of_not_due {s : State} (due : s.choiceDue = false) : s.choose = s := if_neg (by simp [due])

/-- With no choice due before, an event of a forward SET TIME is the event and then the choice. -/
theorem State.reachInJump_eq {s : State} (due : s.choiceDue = false) (e : ClockEvent) : s.reachInJump e = (s.reach e).choose := by
  unfold State.reachInJump
  by_cases made : (s.reach e).choiceDue = true
  · rw [if_pos (by simp [due, made])]
  · have none_made : (s.reach e).choiceDue = false := Bool.eq_false_iff.2 made
    rw [if_neg (by simp [none_made]), State.choose_of_not_due none_made]

theorem State.reachInJump_done {s : State} (due : s.choiceDue = false) (e : ClockEvent) : (s.reachInJump e).choiceDue = false := by
  rw [State.reachInJump_eq due]
  exact State.choose_done fun made => ((s.reach_keeps e).due made).resolve_left (by rw [due]; decide)

/-- The next event at its own time, and its choice. -/
theorem State.InSpan.after_row {s u : State} {t1 : ClockTime} {l : List (ClockTime × ClockEvent)} (h : s.InSpan t1 u l)
    {e : ClockTime × ClockEvent} (first : IsFirst l e) (due : u.choiceDue = false) :
    (u.clockAt e.1).after [e.2.row, .choice] = (u.reachInJump e.2).clockAt e.1 := by
  have running : ((u.reach e.2).clockAt e.1).running = true := (u.reach_keeps e.2).running.trans h.running
  rw [State.after, h.exec_row first, State.reach_clockAt]
  dsimp only
  rw [State.after, exec_choice running, State.choose_clockAt, ← State.reachInJump_eq due]
  rfl

/-- Every event at its own time, each followed by its choice, comes to the events of the span taken one after another. -/
theorem State.InSpan.foldl_after {s : State} (fits : s.WindowFits) {t1 : ClockTime} (order : List (ClockTime × ClockEvent))
    (sorted : order.Pairwise (fun e f => ClockTime.Before e.1 f.1)) (u : State) (h : s.InSpan t1 u order) (due : u.choiceDue = false)
    (c : ClockTime) :
    ∃ c', order.foldl (fun v e => (v.clockAt e.1).after [e.2.row, .choice]) (u.clockAt c) =
      (order.foldl (fun v e => v.reachInJump e.2) u).clockAt c' := by
  induction order generalizing u c with
  | nil => exact ⟨c, rfl⟩
  | cons e es ih =>
    obtain ⟨before, sorted⟩ := List.pairwise_cons.1 sorted
    have first : IsFirst (e :: es) e := by
      refine ⟨List.mem_cons_self, fun x mem => ?_⟩
      rcases List.mem_cons.1 mem with rfl | later
      · exact ClockTime.notAfter_refl _
      · have := before x later
        unfold ClockTime.Before at this; unfold ClockTime.NotAfter; omega
    have left : s.InSpan t1 (u.reachInJump e.2) es := by simpa using h.take fits first
    have same : (u.clockAt c).clockAt e.1 = u.clockAt e.1 := rfl
    rw [List.foldl_cons, List.foldl_cons, same, h.after_row first due]
    exact ih sorted _ left (State.reachInJump_done due e.2) e.1

/-- The part at the start of a forward SET TIME, with its agenda. -/
theorem State.inSpan_start {s : State} {t1 : ClockTime} (run : s.running = true) (clock : ClockLaw s) (position : NightPositionLaw s)
    (before : ClockTime.Before s.nck.clock t1) (proper1 : t1.Proper) {order : List (ClockTime × ClockEvent)}
    (perm : order.Perm (s.agenda s.nck.clock t1)) : s.InSpan t1 s order := by
  obtain ⟨-, proper, -, w1, w2, w3, w4, w5, -, -, night, -⟩ := clock
  have fits : s.WindowFits := ⟨w1, w2, w3, w4, w5⟩
  have ahead := State.onAgenda_agenda fits proper proper1 ((ClockTime.before_iff proper proper1).1 before).le night
    ((nightPositionLaw_iff fits proper night).1 position)
  refine ⟨run, rfl, ahead.of_same_boundaries (perm.nodup_iff.2 ahead.nodup) fun x k _ => perm.mem_iff, fun x d mem => ?_⟩
  exact ((s.holdExpiry_mem_agenda _ _ x d).1 (perm.mem_iff.1 mem)).1

/-! ## The agenda as the claim lists it -/

theorem State.agenda_rows (s : State) (t0 t1 : ClockTime) :
    (s.agenda t0 t1).map (fun e => (e.1, e.2.row)) =
      (((if s.nightInProgress then s.closingEvents (s.nck.nightDay.getD 0) else []).map (fun e => (e.1, e.2.row)) ++
        (s.nextNightEvents t0 t1).map (fun e => (e.1, e.2.row)) ++ s.holdEvents.map (fun e => (e.1, e.2.row))).filter
          (fun e => decide (ClockTime.Before t0 e.1 ∧ ClockTime.NotAfter e.1 t1))) := by
  unfold State.agenda State.currentNightEvents
  rw [← List.map_append, ← List.map_append, List.filter_map]
  refine congrArg _ (List.filter_congr fun e _ => ?_)
  simp [inSpan]

theorem setTime_forward (s : State) (p : Position) (d1 d0 m1 m0 : Byte) (set : s.nck.clockSet = true)
    (minute : word16 m1 m0 ≤ 1439) (later : ClockTime.Before s.nck.clock ⟨word16 d1 d0, word16 m1 m0⟩) :
    setTime s p [d1, d0, m1, m0] = accept (s.forwardSet ⟨word16 d1 d0, word16 m1 m0⟩) [] := by
  have day : ¬ 65535 < word16 d1 d0 := Nat.not_lt.2 (word16_le d1 d0)
  have other : (⟨word16 d1 d0, word16 m1 m0⟩ : ClockTime) ≠ s.nck.clock := fun same => by
    rw [← same] at later
    unfold ClockTime.Before at later
    omega
  simp only [setTime, readSetTime, day, Nat.not_lt.2 minute, or_self, if_false, set, Bool.not_true, Bool.false_eq_true, other, later, if_true]

/-- Settles O37: the agenda is what the claim lists; each of its rows is its event at its time, and the clock stands at the new time throughout. -/
theorem forwardSetTakesTheEventsInOrder : Obligations.ForwardSetTakesTheEventsInOrder := by
  intro s p d1 d0 m1 m0 next events asks clock position set due t falls closing possible later minute starts latest perm sorted
  have ⟨run, _⟩ := asks
  have ⟨_, _, _, w1, w2, w3, w4, w5, _, _, night, _⟩ := clock
  have fits : s.WindowFits := ⟨w1, w2, w3, w4, w5⟩
  have judged := asks.exec_request (i := .setTime [d1, d0, m1, m0]) rfl rfl (by simp) rfl
  have rule : handle .setTime s p [d1, d0, m1, m0] = accept (s.forwardSet t) [] := setTime_forward s p d1 d0 m1 m0 set minute later
  rw [judged, rule, answeredWith_accept]
  have found : s.latestStart s.nck.clock t t.day = next := by
    cases next with
    | none =>
      refine Option.eq_none_iff_forall_ne_some.2 fun n found => ?_
      obtain ⟨after, upTo, fit⟩ := (State.latestStart_eq_some found).1
      obtain ⟨m, none_next, -⟩ := latest n ⟨after, upTo⟩ fit
      cases none_next
    | some m =>
      obtain ⟨⟨after, upTo⟩, fit⟩ := starts m rfl
      have startsIn : s.StartsIn s.nck.clock t m := ⟨after, upTo, fit⟩
      rcases Option.eq_none_or_eq_some (s.latestStart s.nck.clock t t.day) with missed | ⟨k, found⟩
      · exact absurd startsIn (State.latestStart_eq_none missed m startsIn.day_le)
      · obtain ⟨⟨after', upTo', fit'⟩, last⟩ := State.latestStart_eq_some found
        obtain ⟨m', same, le⟩ := latest k ⟨after', upTo'⟩ fit'
        obtain rfl := Option.some.inj same
        rw [found, le_antisymm le (last m startsIn.day_le startsIn)]
  have rows : (s.agenda s.nck.clock t).map (fun e => (e.1, e.2.row)) = possible.filter (fun e => decide (falls e.1)) := by
    have closes : ∀ n, (s.closingEvents n).map (fun e => (e.1, e.2.row)) = closing n := fun n => by
      unfold State.closingEvents
      by_cases grace : s.nck.grace = 0
      · rw [if_pos grace]
        exact (congrArg ((s.windowEndOf n, Instr.windowEnd) :: ·) (if_pos grace)).symm
      · rw [if_neg grace]
        exact (congrArg ((s.windowEndOf n, Instr.windowEnd) :: ·) (if_neg grace)).symm
    have current : (if s.nightInProgress then s.closingEvents (s.nck.nightDay.getD 0) else []).map (fun e => (e.1, e.2.row)) =
        if s.nightInProgress then s.nck.nightDay.toList.flatMap closing else [] := by
      by_cases inProgress : s.nightInProgress = true
      · obtain ⟨m, day⟩ := Option.ne_none_iff_exists'.1 (night inProgress)
        rw [if_pos inProgress, if_pos inProgress, day, closes]
        simp
      · rw [if_neg inProgress, if_neg inProgress]; rfl
    have opening : (s.nextNightEvents s.nck.clock t).map (fun e => (e.1, e.2.row)) =
        next.toList.flatMap (fun n => (s.windowStartOf n, Instr.windowStart) :: closing n) := by
      unfold State.nextNightEvents
      rw [found]
      cases next with
      | none => rfl
      | some n => simp only [List.map_cons, closes, Option.toList_some, List.flatMap_singleton]; rfl
    have holding : s.holdEvents.map (fun e => (e.1, e.2.row)) =
        allDistricts.filterMap (fun d => (s.district d).hold.map (fun h => (h.expiry, Instr.holdExpiry d))) := by
      unfold State.holdEvents
      rw [List.map_filterMap]
      simp only [Option.map_map]
      rfl
    rw [State.agenda_rows, current, opening, holding]
  rw [← rows] at perm
  obtain ⟨order, named, same⟩ : Relation.Comp (· = List.map (fun e => (e.1, e.2.row)) ·) List.Perm events (s.agenda s.nck.clock t) := by
    rw [List.eq_map_comp_perm]; exact perm
  subst named
  have order_sorted : order.Pairwise (fun e f => ClockTime.Before e.1 f.1) := by
    rw [List.pairwise_map] at sorted; exact sorted
  obtain ⟨c, folded⟩ := (State.inSpan_start run clock position later minute same).foldl_after fits order order_sorted s due s.nck.clock
  have taken : s.takeSpan State.reachInJump s.nck.clock t = order.foldl (fun u e => u.reachInJump e.2) s :=
    State.runAgenda_sorted _ _ same order_sorted (le_refl _) s
  have own : s.takeSpan State.reachInJump s.nck.clock t =
      (s.takeSpan State.reachInJump s.nck.clock t).apart s.link s.pending s.nck.clock s.nck.divider := State.takeSpan_apart s s.link s.pending s.nck.clock s.nck.divider
    (fun u e => u.reachInJump_apart s.link s.pending s.nck.clock s.nck.divider e) s.nck.clock t
  have placed : s.forwardSet t = (s.takeSpan State.reachInJump s.nck.clock t).apart s.link s.pending t 0 :=
    State.takeSpan_apart s s.link s.pending t 0 (fun u e => u.reachInJump_apart s.link s.pending t 0 e) s.nck.clock t
  have jumped : s.forwardSet t = { (order.map (fun e => (e.1, e.2.row))).foldl (fun (u : State) e => (u.clockAt e.1).after [e.2, .choice]) s with
      nck.clock := t, nck.divider := 0 } := by
    rw [List.foldl_map]
    have start : s.clockAt s.nck.clock = s := rfl
    rw [start] at folded
    rw [folded, ← taken, placed]
    generalize s.takeSpan State.reachInJump s.nck.clock t = u at own
    have link : u.link = s.link := (congrArg State.link own).trans rfl
    have pending : u.pending = s.pending := (congrArg State.pending own).trans rfl
    rw [← link, ← pending]
    rfl
  rw [jumped]

end Sys2Proof.Machine
end

section
/-!
PROOF. The byte handshake frame by frame: a request carried up (R181 to R183) and an answer carried down (R186, R187).
-/

namespace Sys2Proof.Machine

/-! ## What DN carries is not read -/

/-- The part with another word on DN. -/
def State.showing (s : State) (w : BitVec 32) : State := { s with link.dn := w }

theorem State.nextFrame_showing (s : State) (w : BitVec 32) : (s.showing w).nextFrame = s.nextFrame := rfl

theorem State.showing_eq_outside (s : State) (w : BitVec 32) : s.showing w = s.outside { s.link with dn := w } s.pending := rfl

theorem execute_showing (k : Kind) (s : State) (body : List Byte) (w : BitVec 32) :
    execute k (s.showing w) body = ((execute k s body).1.showing w, (execute k s body).2) := by
  have requester : (s.showing w).requester = s.requester := rfl
  have station : ∀ p, (s.showing w).station p = s.station p := fun _ => rfl
  unfold execute
  simp only [requester, station]
  rcases s.requester with _ | p
  · rfl
  dsimp only
  rcases (s.station p).role with _ | r
  · rfl
  dsimp only
  by_cases right : mayRequest k r = true
  · rw [if_pos right, if_pos right, State.showing_eq_outside, handle_outside]
    obtain ⟨link, pending⟩ := handle_link_pending k s p body
    simp only [elsewhere, State.showing, State.outside, ← link, ← pending]
  · rw [if_neg right, if_neg right]; rfl

theorem State.messageEnd_showing (s : State) (w : BitVec 32) : (s.showing w).messageEnd = s.messageEnd.showing w := by
  have buffer : (s.showing w).link.recvBuf = s.link.recvBuf := rfl
  have full : (s.showing w).link.overLength = s.link.overLength := rfl
  unfold State.messageEnd
  rw [buffer, full]
  cases openEnvelope s.link.recvBuf s.link.overLength with
  | refused st => rfl
  | request k body =>
    change (execute k (s.showing w) body).1.startAnswer k.code (execute k (s.showing w) body).2 = _
    rw [execute_showing]
    rfl

theorem State.endGrant_showing (s : State) (w : BitVec 32) : (s.showing w).endGrant = s.endGrant.showing w := by
  have holder : (s.showing w).link.holder = s.link.holder := rfl
  unfold State.endGrant
  rw [holder]
  cases s.link.holder <;> rfl

theorem State.commitEvents_showing (s : State) (w : BitVec 32) : (s.showing w).commitEvents = s.commitEvents.showing w := by
  have note : (s.showing w).rqh = s.rqh := rfl
  unfold State.commitEvents
  rw [note]
  cases s.rqh.events <;> rfl

theorem State.commitNotice_showing (s : State) (w : BitVec 32) : (s.showing w).commitNotice = s.commitNotice.showing w := by
  have note : (s.showing w).rqh = s.rqh := rfl
  have station : ∀ p, (s.showing w).station p = s.station p := fun _ => rfl
  have dropped : ∀ p d, ((s.showing w).dropPending p d).endCleared d = ((s.dropPending p d).endCleared d).showing w := fun p d => by
    rw [State.endCleared_eq, State.endCleared_eq]; rfl
  unfold State.commitNotice
  simp only [note, station, dropped]
  cases s.rqh.notice with
  | none => rfl
  | some n =>
    dsimp only
    split <;> rfl

theorem State.completeAnswer_showing (s : State) (w : BitVec 32) : (s.showing w).completeAnswer = s.completeAnswer.showing w := by
  unfold State.completeAnswer
  rw [State.commitNotice_showing, State.commitEvents_showing, State.endGrant_showing]

/-! ## The frames of a station -/

/-- A station's frame in the fields of a word of the link. -/
theorem upFrame_fields (uv : Bool) (b : Byte) :
    isBreakFrame (upFrame uv b) = false ∧ upBit (upFrame uv b) 16 = uv ∧ udataOf (upFrame uv b) = b := by
  obtain ⟨-, -, data, valid, -, ones⟩ := frame_word_fields 0xF#4 0xF#4 b uv true
  have frame : upFrame uv b = 0xF#4 ++ 0xF#4 ++ b ++ BitVec.ofBool uv ++ BitVec.ofBool true ++ 0x3FFF#14 := rfl
  refine ⟨?_, valid, data⟩
  have low : (upFrame uv b).extractLsb' 0 8 = ((upFrame uv b).extractLsb' 0 14).extractLsb' 0 8 :=
    (BitVec.extractLsb'_extractLsb'_of_le (by decide)).symm
  have low14 : (upFrame uv b).extractLsb' 0 14 = 0x3FFF#14 := ones
  rw [isBreakFrame, low, low14]
  decide

theorem uaFrame_quiet : ∀ ua, isBreakFrame (uaFrame ua) = false := by decide

theorem uaFrame_ua : ∀ ua, upBit (uaFrame ua) 17 = ua := by decide

theorem run_succ {M : Host.Core} {s t : M.State} (step : M.step s = .next t) (n : Nat) : M.run (n + 1) s = M.run n t := by
  rw [Host.Core.run, step]

/-- A frame end at the front of the queue is the first step of a run. -/
theorem run_frameEnd {s : State} {up : BitVec 32} {q : List Instr} (run : s.running = true) (n : Nat) :
    Sys2Proof.core.run (n + 1) { s with pending := .frameEnd up :: q } = Sys2Proof.core.run n (State.frameEnd { s with pending := q } up) := by
  have first : Sys2Proof.core.step { s with pending := .frameEnd up :: q } = .next (State.frameEnd { s with pending := q } up) :=
    exec_frameEnd (s := { s with pending := q }) run up
  exact run_succ first n

/-- A run of one step is the meaning of the row at the front of the queue. -/
theorem run_one {s t : State} {i : Instr} {q : List Instr} (row : exec i { s with pending := q } = .next t) :
    Sys2Proof.core.run 1 { s with pending := i :: q } = .next t := by
  have first : Sys2Proof.core.step { s with pending := i :: q } = .next t := row
  exact run_succ first 0

/-! ## A request carried up (R181 to R183) -/

/-- Step `st` of REQUEST with the bytes `m` received and `k` quiet frames counted, `q` waiting and `w` on DN. -/
def State.gathered (s : State) (m : List Byte) (st : RecvStep) (k : Nat) (q : List Instr) (w : BitVec 32) : State :=
  { s with
    pending := q, link.recvStep := st, link.clearFrames := k, link.frames := 0, link.breakRun := 0,
    link.recvBuf := m.take 64, link.overLength := decide (64 < m.length), link.dn := w }

theorem run_gathered {s : State} (run : s.running = true) (m : List Byte) (st : RecvStep) (k : Nat) (q : List Instr) (w : BitVec 32)
    (up : BitVec 32) (n : Nat) :
    Sys2Proof.core.run (n + 1) (s.gathered m st k (.frameEnd up :: q) w) =
      Sys2Proof.core.run n ((s.gathered m st k q w).frameEnd up) :=
  run_frameEnd (s := s.gathered m st k q w) run n

/-- A byte taken after `m`: the first 64 bytes are held, more are marked (R182). -/
theorem State.takeByte_eq {s : State} {m : List Byte} (buffer : s.link.recvBuf = m.take 64)
    (full : s.link.overLength = decide (64 < m.length)) (b : Byte) :
    s.takeByte b = { s with link.recvBuf := (m ++ [b]).take 64, link.overLength := decide (64 < (m ++ [b]).length) } := by
  unfold State.takeByte
  by_cases few : m.length < 64
  · have held : m.take 64 = m := List.take_of_length_le (by omega)
    have held' : (m ++ [b]).take 64 = m ++ [b] := List.take_of_length_le (by simp; omega)
    have same : decide (64 < (m ++ [b]).length) = s.link.overLength := by
      rw [full, List.length_append, List.length_singleton, decide_eq_decide]; omega
    rw [if_pos (by rw [buffer, held]; exact few), held', same, buffer, held]
  · have more : decide (64 < (m ++ [b]).length) = true := decide_eq_true (by simp; omega)
    rw [if_neg (by rw [buffer, List.length_take]; omega), List.take_append_of_le_length (by omega), more, ← buffer]

theorem State.requestFrame_ended {s : State} (byte : s.link.recvStep = .byte) (third : s.link.clearFrames = 2) (b : Byte) :
    s.requestFrame false b = State.messageEnd { s with link.clearFrames := 3 } := by
  unfold State.requestFrame
  simp only [byte, third]
  rfl

section
variable {s : State} (phase : s.link.phase = .request)
include phase

/-- A byte placed with UV 1 (R181). -/
theorem State.frameEnd_placed {m : List Byte} (ready : s.link.recvStep ≠ .clear) (buffer : s.link.recvBuf = m.take 64)
    (full : s.link.overLength = decide (64 < m.length)) (b : Byte) (q : List Instr) :
    ∃ w, State.frameEnd { s with pending := q } (upFrame true b) = s.gathered (m ++ [b]) .clear s.link.clearFrames q w := by
  obtain ⟨quiet, uv, data⟩ := upFrame_fields true b
  have taken_ : State.requestFrame { s with pending := q, link.breakRun := 0 } true b =
      { State.takeByte { s with pending := q, link.breakRun := 0 } b with link.recvStep := .clear, link.frames := 0 } := by
    unfold State.requestFrame
    cases step : s.link.recvStep with
    | first => rfl
    | byte => rfl
    | clear => exact absurd step ready
  refine ⟨State.downstream (s.gathered (m ++ [b]) .clear s.link.clearFrames q 0), ?_⟩
  rw [State.frameEnd_request (s := { s with pending := q }) phase quiet, uv, data, taken_,
    State.takeByte_eq (s := { s with pending := q, link.breakRun := 0 }) buffer full]
  rfl

/-- The byte released with UV 0 (R181). -/
theorem State.frameEnd_released (m : List Byte) (k : Nat) (q : List Instr) (w : BitVec 32) :
    ∃ w', (s.gathered m .clear k q w).frameEnd (upFrame false 0) = s.gathered m .byte 0 q w' := by
  obtain ⟨quiet, uv, -⟩ := upFrame_fields false 0
  refine ⟨State.downstream (s.gathered m .byte 0 q w), ?_⟩
  rw [State.frameEnd_request (s := s.gathered m .clear k q w) phase quiet, uv]
  rfl

/-- A frame in which UV stays clear, with fewer than three counted (R181). -/
theorem State.frameEnd_quiet (m : List Byte) {k : Nat} (few : k + 1 < 3) (q : List Instr) (w : BitVec 32) :
    ∃ w', (s.gathered m .byte k q w).frameEnd (upFrame false 0) = s.gathered m .byte (k + 1) q w' := by
  obtain ⟨quiet, uv, -⟩ := upFrame_fields false 0
  refine ⟨State.downstream (s.gathered m .byte (k + 1) q w), ?_⟩
  rw [State.frameEnd_request (s := s.gathered m .byte k q w) phase quiet, uv]
  exact congrArg State.nextFrame (if_pos few)

/-- The third such frame ends the message (R181). -/
theorem State.frameEnd_ended (m : List Byte) (q : List Instr) (w : BitVec 32) :
    (s.gathered m .byte 2 q w).frameEnd (upFrame false 0) = (State.received { s with pending := q } m).messageEnd.nextFrame := by
  obtain ⟨quiet, uv, -⟩ := upFrame_fields false 0
  rw [State.frameEnd_request (s := s.gathered m .byte 2 q w) phase quiet, uv,
    State.requestFrame_ended rfl rfl, ← State.nextFrame_showing (State.messageEnd (State.received _ m)) w, ← State.messageEnd_showing]
  rfl

end

/-- The two frames of one byte. -/
theorem run_byte {s : State} {m : List Byte} (run : s.running = true) (phase : s.link.phase = .request) (ready : s.link.recvStep ≠ .clear)
    (buffer : s.link.recvBuf = m.take 64) (full : s.link.overLength = decide (64 < m.length)) (b : Byte) (q : List Instr) (n : Nat) :
    ∃ w, Sys2Proof.core.run (n + 2) { s with pending := .frameEnd (upFrame true b) :: .frameEnd (upFrame false 0) :: q } =
      Sys2Proof.core.run n (s.gathered (m ++ [b]) .byte 0 q w) := by
  obtain ⟨w, placed⟩ := State.frameEnd_placed phase ready buffer full b (.frameEnd (upFrame false 0) :: q)
  obtain ⟨w', released⟩ := State.frameEnd_released phase (m ++ [b]) s.link.clearFrames q w
  exact ⟨w', by rw [run_frameEnd (s := s) run (n + 1), placed, run_gathered run, released]⟩

/-- The frames of the bytes `m`, after those of `before`. -/
theorem run_bytes (s : State) (run : s.running = true) (phase : s.link.phase = .request) (q : List Instr) (n : Nat) (m : List Byte) :
    ∀ (before : List Byte) (w : BitVec 32), ∃ w',
      Sys2Proof.core.run (n + 2 * m.length)
          (s.gathered before .byte 0 ((m.flatMap (fun b => [upFrame true b, upFrame false 0])).map .frameEnd ++ q) w) =
        Sys2Proof.core.run n (s.gathered (before ++ m) .byte 0 q w') := by
  induction m with
  | nil => exact fun before w => ⟨w, by rw [List.append_nil]; rfl⟩
  | cons b m ih =>
    intro before w
    obtain ⟨w1, two⟩ := run_byte (s := s.gathered before .byte 0 q w) (m := before) run phase nofun rfl rfl b
      ((m.flatMap (fun b => [upFrame true b, upFrame false 0])).map .frameEnd ++ q) (n + 2 * m.length)
    obtain ⟨w2, rest⟩ := ih (before ++ [b]) w1
    rw [List.append_assoc] at rest
    exact ⟨w2, two.trans rest⟩

/-- Three frames with UV 0 end the message (R181). -/
theorem run_quiet {s : State} (run : s.running = true) (phase : s.link.phase = .request) (m : List Byte) (q : List Instr) (w : BitVec 32) :
    Sys2Proof.core.run 3
        (s.gathered m .byte 0 (.frameEnd (upFrame false 0) :: .frameEnd (upFrame false 0) :: .frameEnd (upFrame false 0) :: q) w) =
      .next (State.received { s with pending := q } m).messageEnd.nextFrame := by
  obtain ⟨w1, one⟩ := State.frameEnd_quiet phase m (k := 0) (by decide) (.frameEnd (upFrame false 0) :: .frameEnd (upFrame false 0) :: q) w
  obtain ⟨w2, two⟩ := State.frameEnd_quiet phase m (k := 1) (by decide) (.frameEnd (upFrame false 0) :: q) w1
  rw [run_gathered run _ _ _ _ _ _ 2, one, run_gathered run _ _ _ _ _ _ 1, two, run_gathered run _ _ _ _ _ _ 0, State.frameEnd_ended phase]
  rfl

/-- What the row of a message is: a request row is the end of its message, and the refusal of a message that the envelope refuses. -/
theorem exec_of_message {s : State} {i : Instr} {m : List Byte} (run : s.running = true) (phase : s.link.phase = .request)
    (row : i.message = some m ∨
      (i = .envelopeCheckRefusal m ∧ m ≠ [] ∧ ∀ k x, openEnvelope (m.take 64) (decide (64 < m.length)) ≠ .request k x)) :
    m ≠ [] ∧ exec i s = .next (s.received m).messageEnd.nextFrame := by
  rcases row with message | ⟨rfl, some_, refused⟩
  · unfold Instr.message at message
    cases kind : i.requestKind with
    | none => rw [kind] at message; exact nomatch message
    | some k =>
      obtain ⟨body, with_⟩ := requestBody_of_requestKind kind
      rw [kind, with_] at message
      have same : requestMessage k body = m := Option.some.inj message
      refine ⟨fun empty => ?_, ?_⟩
      · rw [empty] at same; exact nomatch same
      · rw [exec_of_request kind with_, taken_of_running run, State.request, if_pos phase, same]
  · refine ⟨some_, ?_⟩
    have applies : (decide (s.link.phase = .request) && !m.isEmpty) = true := by simp [phase, some_]
    rw [exec, execEnvelopeCheckRefusal, taken_of_running run]
    refine congrArg _ ?_
    unfold State.messageEnd
    have buffer : (s.received m).link.recvBuf = m.take 64 := rfl
    have full : (s.received m).link.overLength = decide (64 < m.length) := rfl
    rw [buffer, full]
    cases seen : openEnvelope (m.take 64) (decide (64 < m.length)) with
    | refused st => exact if_pos applies
    | request k x => exact absurd seen (refused k x)

/-- Settles O27: the first byte from step FIRST, the others by induction, and the three frames that end the message. -/
theorem framesCarryTheRequest : Obligations.FramesCarryTheRequest := by
  intro s i m rest run phase first buffer full row frames
  obtain ⟨some_, meaning⟩ := exec_of_message (s := { s with pending := rest }) run phase row
  obtain ⟨b, m', rfl⟩ := List.exists_cons_of_ne_nil some_
  let tail : List Instr := .frameEnd (upFrame false 0) :: .frameEnd (upFrame false 0) :: .frameEnd (upFrame false 0) :: rest
  obtain ⟨w1, two⟩ := run_byte (s := s) (m := []) run phase (by rw [first]; decide) buffer full b
    ((m'.flatMap (fun b => [upFrame true b, upFrame false 0])).map .frameEnd ++ tail) (3 + 2 * m'.length)
  obtain ⟨w2, others⟩ := run_bytes s run phase tail 3 m' [b] w1
  have queue : frames.map Instr.frameEnd ++ rest = .frameEnd (upFrame true b) :: .frameEnd (upFrame false 0) ::
      ((m'.flatMap (fun b => [upFrame true b, upFrame false 0])).map .frameEnd ++ tail) := by
    simp [frames, tail, List.replicate]
  have count : 2 * (b :: m').length + 3 = 3 + 2 * m'.length + 2 := by rw [List.length_cons]; omega
  rw [queue, count]
  refine two.trans (others.trans ((run_quiet run phase (b :: m') rest w2).trans ?_))
  exact (run_one (s := s) meaning).symm

/-! ## An answer carried down (R186, R187) -/

/-- The answer in hand: phase `ph` and step `st` at byte `k`, with `f` frames counted, `q` waiting and `w` on DN. -/
def State.handing (s : State) (ph : GrantPhase) (st : SendStep) (k f : Nat) (q : List Instr) (w : BitVec 32) : State :=
  { s with
    pending := q, link.phase := ph, link.sendStep := st, link.sendPos := k, link.frames := f, link.breakRun := 0, link.dn := w }

theorem run_handing {s : State} (run : s.running = true) (ph : GrantPhase) (st : SendStep) (k f : Nat) (q : List Instr) (w : BitVec 32)
    (up : BitVec 32) (n : Nat) :
    Sys2Proof.core.run (n + 1) (s.handing ph st k f (.frameEnd up :: q) w) =
      Sys2Proof.core.run n ((s.handing ph st k f q w).frameEnd up) :=
  run_frameEnd (s := s.handing ph st k f q w) run n

theorem State.answerFrame_acknowledged {s : State} (offered : s.link.sendStep = .offer) :
    s.answerFrame true = { s with link.sendStep := .release, link.frames := 0 } := by
  unfold State.answerFrame
  simp only [offered]

/-- A byte on offer acknowledged with UA 1 (R186). -/
theorem State.frameEnd_acknowledged {s : State} (phase : s.link.phase = .answer) (offered : s.link.sendStep = .offer) (q : List Instr) :
    ∃ w, State.frameEnd { s with pending := q } (uaFrame true) = s.handing .answer .release s.link.sendPos 0 q w := by
  refine ⟨State.downstream (s.handing .answer .release s.link.sendPos 0 q 0), ?_⟩
  rw [State.frameEnd_answer (s := { s with pending := q }) phase (uaFrame_quiet true), uaFrame_ua,
    State.answerFrame_acknowledged (s := { s with pending := q, link.breakRun := 0 }) offered, State.handing, ← phase]
  rfl

/-- An acknowledged byte released with UA 0, when another follows (R186). -/
theorem State.frameEnd_next {s : State} {k : Nat} (more : k + 1 < s.link.answer.length) (f : Nat) (q : List Instr) (w : BitVec 32) :
    ∃ w', (s.handing .answer .release k f q w).frameEnd (uaFrame false) = s.handing .answer .offer (k + 1) 0 q w' := by
  refine ⟨State.downstream (s.handing .answer .offer (k + 1) 0 q w), ?_⟩
  rw [State.frameEnd_answer (s := s.handing .answer .release k f q w) rfl (uaFrame_quiet false), uaFrame_ua]
  exact congrArg State.nextFrame (if_pos more)

/-- The last byte released with UA 0 (R186). -/
theorem State.frameEnd_lastByte {s : State} {k : Nat} (last : k + 1 = s.link.answer.length) (f : Nat) (q : List Instr) (w : BitVec 32) :
    ∃ w', (s.handing .answer .release k f q w).frameEnd (uaFrame false) = s.handing .trailer .release k 0 q w' := by
  refine ⟨State.downstream (s.handing .trailer .release k 0 q w), ?_⟩
  rw [State.frameEnd_answer (s := s.handing .answer .release k f q w) rfl (uaFrame_quiet false), uaFrame_ua]
  exact congrArg State.nextFrame (if_neg (Nat.not_lt.2 (Nat.le_of_eq last.symm)))

/-- The frames of the bytes from position `s.link.sendPos` to the last. -/
theorem run_answer (bytes : List Byte) : ∀ {s : State}, s.running = true → s.link.phase = .answer → s.link.sendStep = .offer →
    bytes ≠ [] → s.link.sendPos + bytes.length = s.link.answer.length → ∀ (q : List Instr) (n : Nat),
      ∃ w, Sys2Proof.core.run (n + 2 * bytes.length)
          { s with pending := (bytes.flatMap (fun _ => [uaFrame true, uaFrame false])).map .frameEnd ++ q } =
        Sys2Proof.core.run n (s.handing .trailer .release (s.link.answer.length - 1) 0 q w) := by
  induction bytes with
  | nil => exact fun _ _ _ some_ => absurd rfl some_
  | cons b bytes ih =>
    intro s run phase offered _ count q n
    obtain ⟨w1, taken_⟩ := State.frameEnd_acknowledged phase offered
      (.frameEnd (uaFrame false) :: ((bytes.flatMap (fun _ => [uaFrame true, uaFrame false])).map .frameEnd ++ q))
    have first := (run_frameEnd (s := s) run (n + 2 * bytes.length + 1)).trans (congrArg (Sys2Proof.core.run _) taken_)
    have second := first.trans (run_handing run _ _ _ _ _ _ _ (n + 2 * bytes.length))
    rw [List.length_cons] at count
    cases bytes with
    | nil =>
      have last : s.link.sendPos + 1 = s.link.answer.length := count
      obtain ⟨w2, left⟩ := State.frameEnd_lastByte (s := s) last 0 q w1
      have here : s.link.sendPos = s.link.answer.length - 1 := by omega
      exact ⟨w2, second.trans (congrArg (Sys2Proof.core.run n) (here ▸ left))⟩
    | cons b' bytes =>
      obtain ⟨w2, left⟩ := State.frameEnd_next (s := s) (k := s.link.sendPos) (by rw [List.length_cons] at count; omega) 0
        (((b' :: bytes).flatMap (fun _ => [uaFrame true, uaFrame false])).map .frameEnd ++ q) w1
      obtain ⟨w3, rest⟩ := ih (s := s.handing .answer .offer (s.link.sendPos + 1) 0 q w2) run rfl rfl nofun
        (by change s.link.sendPos + 1 + _ = s.link.answer.length; omega) q n
      exact ⟨w3, second.trans ((congrArg (Sys2Proof.core.run (n + 2 * (b' :: bytes).length)) left).trans rest)⟩

/-- Two frames of TRAILER complete the answer (R187). -/
theorem run_trailer {s : State} (run : s.running = true) (k : Nat) (q : List Instr) (w : BitVec 32) :
    Sys2Proof.core.run 2 (s.handing .trailer .release k 0 (.frameEnd (uaFrame false) :: .frameEnd (uaFrame false) :: q) w) =
      .next (s.handing .trailer .release k 1 q s.link.dn).completeAnswer.nextFrame := by
  have trailer (f : Nat) (q : List Instr) (w : BitVec 32) : (s.handing .trailer .release k f q w).frameEnd (uaFrame false) =
      (State.trailerFrame (s.handing .trailer .release k f q w) false).nextFrame := by
    rw [State.frameEnd_trailer (s := s.handing .trailer .release k f q w) rfl, uaFrame_quiet, Bool.false_and, State.countBreak_false]
    rfl
  have first (q : List Instr) : ∃ w', (s.handing .trailer .release k 0 q w).frameEnd (uaFrame false) =
      s.handing .trailer .release k 1 q w' := ⟨State.downstream (s.handing .trailer .release k 1 q w), trailer 0 q w⟩
  obtain ⟨w1, one⟩ := first (.frameEnd (uaFrame false) :: q)
  have two : (s.handing .trailer .release k 1 q w1).frameEnd (uaFrame false) =
      (s.handing .trailer .release k 1 q s.link.dn).completeAnswer.nextFrame := by
    rw [trailer, ← State.nextFrame_showing (State.completeAnswer _) w1, ← State.completeAnswer_showing]
    rfl
  rw [run_handing run _ _ _ _ _ _ _ 1, one, run_handing run _ _ _ _ _ _ _ 0, two]
  rfl

/-- Settles O28: the bytes by induction along the answer, and the two frames of TRAILER. -/
theorem framesCarryTheAnswer : Obligations.FramesCarryTheAnswer := by
  intro s rest run phase offered start some_ frames
  let tail : List Instr := .frameEnd (uaFrame false) :: .frameEnd (uaFrame false) :: rest
  obtain ⟨w, bytes⟩ := run_answer s.link.answer run phase offered some_ (by rw [start, Nat.zero_add]) tail 2
  have queue : frames.map Instr.frameEnd ++ rest =
      (s.link.answer.flatMap (fun _ => [uaFrame true, uaFrame false])).map .frameEnd ++ tail := by
    simp [frames, tail, List.replicate]
  rw [queue, Nat.add_comm (2 * s.link.answer.length)]
  refine bytes.trans ((run_trailer run _ rest w).trans ?_)
  refine (run_one (s := s.handing .trailer .release (s.link.answer.length - 1) 1 rest s.link.dn) ?_).symm
  exact exec_answerCompletion (s := s.handing .trailer .release (s.link.answer.length - 1) 1 rest s.link.dn) run rfl

end Sys2Proof.Machine
end

section
/-!
PROOF. Reset meets every law.
-/

namespace Sys2Proof.Machine

section
variable (strap : BitVec 4)

theorem afterReset_district (d : District) : (State.afterReset strap).district d = resetDistrict := Table.get_replicate _ d

theorem afterReset_watch (d : District) : (State.afterReset strap).watch d = resetWatch := Table.get_replicate _ d

theorem afterReset_baseline (d : District) : (State.afterReset strap).baseline d = resetBaseline := Table.get_replicate _ d

theorem afterReset_slot (i : SlotIndex) : (State.afterReset strap).slot i = unboundSlot := Table.get_replicate _ i

theorem afterReset_station_zero : (State.afterReset strap).station 0 = telemetryStation strap := rfl

theorem afterReset_station_of_ne {p : Position} (ne : p ≠ 0) : (State.afterReset strap).station p = freeStation := by
  match p, ne with
  | 1, _ => rfl
  | 2, _ => rfl
  | 3, _ => rfl

theorem afterReset_role_iff (p : Position) : ((State.afterReset strap).station p).role ≠ none ↔ p = 0 := by
  by_cases zero : p = 0
  · rw [zero, afterReset_station_zero]; exact iff_of_true nofun rfl
  · rw [afterReset_station_of_ne strap zero]; exact iff_of_false (fun h => h rfl) zero

theorem afterReset_pendingSet (p : Position) : ((State.afterReset strap).station p).pendingSet = 0#32 := by
  by_cases zero : p = 0
  · rw [zero, afterReset_station_zero]; rfl
  · rw [afterReset_station_of_ne strap zero]; rfl

theorem unboundSlot_consistent : unboundSlot.Consistent := by
  refine ⟨fun _ => rfl, fun bound => absurd rfl bound, by decide, rfl, by decide, by decide, fun c => ?_⟩
  rw [show unboundSlot.cells.get c = emptyCell from Table.get_replicate _ c]
  exact ⟨by decide, fun _ => rfl⟩

theorem afterReset_clockLaw : ClockLaw (State.afterReset strap) :=
  ⟨by decide +revert, by decide +revert, by decide +revert, by decide +revert, by decide +revert, by decide +revert, by decide +revert, by decide +revert, iff_of_true rfl rfl, fun _ => ⟨rfl, rfl⟩,
    nofun, rfl, nofun, iff_of_true rfl rfl⟩

theorem afterReset_nightPositionLaw : NightPositionLaw (State.afterReset strap) := ⟨nofun, nofun, nofun⟩

theorem afterReset_districtLaw : DistrictLaw (State.afterReset strap) := fun d => by
  rw [afterReset_district]
  exact ⟨by decide +revert, rfl⟩

theorem afterReset_queueLaw : QueueLaw (State.afterReset strap) := by
  have idle (d : District) : ((State.afterReset strap).district d).nightState = .idle := by rw [afterReset_district]; rfl
  refine ⟨List.nodup_nil, fun d => ?_, fun d => ?_, rfl, fun _ => rfl, fun _ _ => ⟨rfl, rfl⟩, fun _ _ d => ?_, fun d _ => idle d⟩
  · rw [idle d]; exact iff_of_false nofun List.not_mem_nil
  · rw [idle d]; exact iff_of_false nofun nofun
  · rw [idle d]; nofun

theorem afterReset_resultLaw : ResultLaw (State.afterReset strap) :=
  ⟨fun d => by rw [afterReset_district]; rfl, fun d _ => by rw [afterReset_district]; rfl, rfl⟩

theorem afterReset_watchLaw : WatchLaw (State.afterReset strap) := fun d => by
  rw [afterReset_district, afterReset_watch]
  decide

theorem afterReset_noticeLaw : NoticeLaw (State.afterReset strap) := by
  refine ⟨fun d cleared => ?_, fun p d pending => ?_⟩
  · rw [afterReset_watch] at cleared; exact nomatch cleared
  · rw [afterReset_pendingSet, DistrictSet.has, BitVec.getLsbD_zero] at pending; exact nomatch pending

theorem afterReset_stationLaw : StationLaw (State.afterReset strap) := by
  refine ⟨rfl, rfl, rfl, fun p other => ?_, fun p q here there _ => ?_⟩
  · rw [afterReset_station_of_ne strap other]
    exact ⟨nofun, fun _ => rfl, fun occupied => absurd rfl occupied⟩
  · rw [(afterReset_role_iff strap p).1 here, (afterReset_role_iff strap q).1 there]

theorem afterReset_linkLaw : LinkLaw (State.afterReset strap) :=
  ⟨iff_of_true rfl rfl, rfl, by decide +revert, by decide +revert, nofun, by decide +revert, by decide +revert, by decide +revert, fun held => absurd rfl held, rfl, nofun,
    by decide +revert, by decide +revert, by decide +revert, by decide +revert, by decide +revert, by decide +revert, by decide +revert, by decide +revert, by decide +revert⟩

theorem afterReset_directoryLaw : DirectoryLaw (State.afterReset strap) := by
  refine ⟨fun i => ?_, fun i j enabled => ?_, Nat.zero_le 8, List.nodup_nil, nofun⟩
  · rw [afterReset_slot]; exact unboundSlot_consistent
  · rw [afterReset_slot] at enabled; exact nomatch enabled

theorem afterReset_ringLaw : RingLaw (State.afterReset strap) := fun d => by
  rw [afterReset_baseline]
  exact ⟨by decide, List.Pairwise.nil, nofun, by decide, by decide, by decide⟩

theorem afterReset_pressureLaw : PressureLaw (State.afterReset strap) := by
  refine ⟨fun d c => ?_, fun d => ?_, rfl⟩
  · have cells : (State.afterReset strap).pressure.get d = emptyPressure := Table.get_replicate _ d
    rw [cells, show emptyPressure.get c = none from Table.get_replicate _ c]; rfl
  · rw [afterReset_district]; rfl

end

/-- Settles O56: law by law, each record being at its reset value. -/
theorem resetMeetsEveryLaw : Obligations.ResetMeetsEveryLaw := fun strap =>
  ⟨afterReset_clockLaw strap, afterReset_nightPositionLaw strap, afterReset_districtLaw strap, afterReset_queueLaw strap,
    afterReset_resultLaw strap, afterReset_watchLaw strap, afterReset_noticeLaw strap, afterReset_stationLaw strap,
    afterReset_linkLaw strap, afterReset_directoryLaw strap, afterReset_ringLaw strap, afterReset_pressureLaw strap, rfl⟩

end Sys2Proof.Machine
end

section
/-!
PROOF. What a step is made of: a closed list of elementary changes, of which every event and every request is a chain. A law that no
elementary change breaks is then kept by every step (R5, R184).
-/

namespace Sys2Proof.Machine

/-! ## The elementary changes -/

/-- The state without the clock time, the link, the notes, the counters and what waits: none of them is read by a law of the units. -/
def State.bare (s : State) : State :=
  { s with
    running := true, nck.clock := ⟨0, 0⟩, nck.divider := 0, nck.clockSet := false, nck.nightMark := none
    link := resetLink, rqh := ⟨none, none⟩, counters := zeroCounters, pending := [], freeCount := 0 }

/-- The checks of BIND METER (R23) on the record `sl` that it writes. -/
abbrev State.MayBind (s : State) (i : SlotIndex) (sl : Slot) : Prop :=
  (s.slot i).enabled = false ∧ sl.enabled = false ∧ sl.Consistent

/-- What SET STATION accepts for position `p` (R161): the empty entry, or a role but TELEMETRY with an address of its own. -/
abbrev State.MayHold (s : State) (p : Position) (st : Station) : Prop :=
  st = freeStation ∨ (st.role ≠ none ∧ st.role ≠ some .telemetry ∧ st.address ≠ 0#4 ∧
    ∀ q : Position, q ≠ p → (s.station q).role ≠ none → (s.station q).address ≠ st.address)

/-- Every counter is within its limit (R171). -/
abbrev Counters.Bounded (c : Counters) : Prop :=
  c.checkErrors ≤ 65535 ∧ c.lengthErrors ≤ 65535 ∧ c.unknownContentions ≤ 65535 ∧ c.fairnessDiscards ≤ 65535 ∧
  c.handshakeTimeouts ≤ 65535 ∧ c.linkBreaks ≤ 65535 ∧ c.readingsStored ≤ 65535 ∧ c.readingsLate ≤ 65535 ∧ c.unknownMeters ≤ 65535

section
variable {c : Counters} (h : c.Bounded)
include h

theorem Counters.Bounded.stored : Counters.Bounded { c with readingsStored := bump 65535 c.readingsStored } := by
  obtain ⟨check, length, unknown, fairness, timeouts, breaks, -, rest⟩ := h
  exact ⟨check, length, unknown, fairness, timeouts, breaks, bump_le _ _, rest⟩

theorem Counters.Bounded.late : Counters.Bounded { c with readingsLate := bump 65535 c.readingsLate } := by
  obtain ⟨check, length, unknown, fairness, timeouts, breaks, stored, -, rest⟩ := h
  exact ⟨check, length, unknown, fairness, timeouts, breaks, stored, bump_le _ _, rest⟩

theorem Counters.Bounded.unknownMeter : Counters.Bounded { c with unknownMeters := bump 65535 c.unknownMeters } := by
  obtain ⟨check, length, unknown, fairness, timeouts, breaks, stored, late, -⟩ := h
  exact ⟨check, length, unknown, fairness, timeouts, breaks, stored, late, bump_le _ _⟩

end

theorem zeroCounters_bounded : zeroCounters.Bounded := by decide

/-- A change of the stores: directory, grid, pressure cells and baselines. -/
inductive StoreChange : State → State → Prop
  | bound (s : State) (i : SlotIndex) (sl : Slot) (may : s.MayBind i sl) : StoreChange s (s.modSlot i (fun _ => sl))
  /-- A slot enabled; its identifier leaves the stray list (R26). -/
  | slotEnabled (s : State) (i : SlotIndex) (bound : (s.slot i).identifier ≠ 0)
      (unique : ∀ j : SlotIndex, (s.slot j).enabled = true → (s.slot j).identifier ≠ (s.slot i).identifier) :
      StoreChange s { s.modSlot i (fun x => { x with enabled := true }) with
        strays := s.strays.filter (fun x => decide (x.identifier ≠ (s.slot i).identifier)) }
  | slotDisabled (s : State) (i : SlotIndex) : StoreChange s (s.modSlot i (fun x => { x with enabled := false }))
  | straysForgotten (s : State) : StoreChange s { s with strays := [] }
  /-- An unknown identifier sighted (R34). -/
  | straySeen (s : State) (identifier day : Nat) (unknown : s.lookup identifier = none) (low : 1 ≤ identifier) (high : identifier ≤ 4294967295)
      (now : day ≤ 65535) : StoreChange s { s with strays := sighted s.strays identifier day }
  /-- A reading judged by the cell rules (R48). -/
  | filed (s : State) (i : SlotIndex) (c : Fin 16) (volume : Nat) (estimated : Bool) (used : (s.slot i).enabled = true) (fits : volume ≤ 1048575) :
      StoreChange s (s.modSlot i (fun x => x.filedWith c (((s.slot i).cells.get c).offered (s.slot i).protect estimated volume).1
        (((s.slot i).cells.get c).offered (s.slot i).protect estimated volume).2))
  /-- A pressure sample filed (R53). -/
  | pressed (s : State) (d : District) (c : Fin 16) (v : Nat) (fits : v ≤ 2000) :
      StoreChange s { s with pressure := s.pressure.modify d (fun t => t.set c (some v)) }
  /-- The baseline settings replaced (R129). -/
  | modeSet (s : State) (d : District) (mode : BaselineMode) (k v : Nat) (low : 1 ≤ k) (high : k ≤ 4) (fits : v ≤ 16777215) :
      StoreChange s (s.modBaseline d (fun bl => { bl with mode := mode, rank := k, fixed := v }))
  /-- The ring replaced (R131, R132). -/
  | ringSet (s : State) (d : District) (es : List RingEntry) (few : es.length ≤ 8) (rises : (es.map (·.nightDay)).Pairwise (· < ·))
      (fits : ∀ e ∈ es, e.nightDay ≤ 65535 ∧ -2147483648 ≤ e.figure ∧ e.figure ≤ 2147483647) :
      StoreChange s (s.modBaseline d (fun bl => { bl with ring := es }))

/-- A change of parameters, window settings, watches and station marks, that moves no district in its night. -/
inductive WatchChange : State → State → Prop
  /-- Flags and event mask of a position (R163, R168, R169). -/
  | marked (s : State) (p : Position) (f : Station → Station) (marks : ∀ st, f st = { st with eventMask := (f st).eventMask, flags := (f st).flags })
      (vacant : s.station p = freeStation → f freeStation = freeStation) :
      WatchChange s (s.modStation p f)
  /-- A notice delivered (R167). -/
  | delivered (s : State) (p : Position) (d : District) : WatchChange s ((s.dropPending p d).endCleared d)
  /-- The readiness re-judge (R133). -/
  | rejudged (s : State) (d : District) : WatchChange s (s.rejudge d)
  | acknowledged (s : State) (d : District) (may : (s.watch d).state = .alerted ∨ (s.watch d).alert = .dataLoss) : WatchChange s (s.acknowledge d)
  | repaired (s : State) (d : District) (may : (s.watch d).state = .alerted ∨ (s.watch d).state = .acknowledged) : WatchChange s (s.markRepaired d)
  /-- The parameters replaced (R67). -/
  | configured (s : State) (d : District) (ps : Params) (fits : ParamsInRange s.nck.wlen ps) :
      WatchChange s ((s.modDistrict d (fun r => { r with params := ps })).modWatch d (fun w => { w with excess := min w.excess ps.nConfirm }))
  /-- The window settings replaced (R15). -/
  | resized (s : State) (a l g : Nat) (fits : ∀ d : District, (s.district d).params.m ≤ l) :
      WatchChange s { s with nck.wstart := a, nck.wlen := l, nck.grace := g }

/-- A change of the night, of an edit hold, of the queue or of the evaluation. -/
inductive NightChange : State → State → Prop
  /-- The unit prompted (R85). -/
  | prompted (s : State) : NightChange s s.prompt
  /-- A choice no longer due (R86). -/
  | chose (s : State) : NightChange s { s with choiceDue := false }
  /-- An OPEN district joins the queue (R83). -/
  | joined (s : State) (d : District) (why : QueueReason) (open_ : (s.district d).nightState = .opened) (settling : s.nck.phase = .settling) :
      NightChange s (s.enqueue d why)
  | windowEnded (s : State) (collecting : s.nck.phase = .collecting) : NightChange s { s with nck.phase := .settling }
  | graceEnded (s : State) (settling : s.nck.phase = .settling) (none_open : ∀ d : District, (s.district d).nightState ≠ .opened) :
      NightChange s { s with nck.phase := .closing }
  | daytime (s : State) (past : s.nck.phase = .stopped ∨ ∀ d : District, ¬ s.Unclosed d) : NightChange s { s with nck.phase := .daytime }
  /-- Edit holds removed (R18, R74, R77). -/
  | unheld (s : State) (ds : Table 32 DistrictRecord)
      (ends : ∀ d : District, ds.get d = s.district d ∨ ds.get d = { s.district d with hold := none }) : NightChange s { s with districts := ds }
  /-- An edit hold placed (R73). -/
  | held (s : State) (d : District) (h : Hold) (free : (s.district d).nightState ≠ .evaluating) (day : h.expiry.day ≤ 65536)
      (minute : h.expiry.minute ≤ 1439) : NightChange s (s.modDistrict d (fun r => { r with hold := some h }))
  /-- An evaluation begins (R87). -/
  | began (s : State) (e : QueueEntry) (chosen : s.chosen = some e) (idle : s.flight = none) (taken : s.choiceDue = false) :
      NightChange s (s.beginEvaluation e)
  /-- An evaluation completes (R89). -/
  | completed (s : State) (f : Flight) (flight : s.flight = some f) :
      NightChange s (s.settleResult f.district f.snapshot.cellPressure f.snapshot.result)
  /-- Night `n` opens (R6). -/
  | nightOpened (s : State) (n : Nat) (out : s.nck.phase = .stopped ∨ s.nck.phase = .daytime ∨ (s.queue = [] ∧ s.flight = none))
      (day : n ≤ 65535) (later : ∀ m, s.nck.nightDay = some m → m < n) : NightChange s (s.openNight n)
  /-- The old night is abandoned (R7). -/
  | nightAbandoned (s : State) (closing : s.nck.phase = .closing) : NightChange s s.abandonNight
  | restarted (s : State) : NightChange s s.restart
  /-- A district leaves service (R69). -/
  | outOfService (s : State) (d : District) (free : (s.district d).nightState ≠ .evaluating) :
      NightChange s (((({ s with queue := s.queue.filter (fun e => decide (e.district ≠ d)) } : State).modDistrict d
        (fun r => { r with inService := false, nightState := .idle })).modWatch d
        (fun w => { w with state := .out, excess := 0, gap := 0 })).changeAlert d .none)
  /-- A district enters service (R70). -/
  | intoService (s : State) (d : District) (out : (s.district d).inService = false) : NightChange s (s.putIn d)

/-- One elementary change of the units behind the link. -/
inductive Change : State → State → Prop
  /-- Nothing of the units moves, and no counter passes its limit. -/
  | nothing {s t : State} (same : s.bare = t.bare) (counts : s.counters.Bounded → t.counters.Bounded := by exact id) : Change s t
  | store {s t : State} (change : StoreChange s t) : Change s t
  | watch {s t : State} (change : WatchChange s t) : Change s t
  | night {s t : State} (change : NightChange s t) : Change s t

/-- An elementary change, or a station entry written (R161, R162). -/
inductive Move : State → State → Prop
  | change {s t : State} (change : Change s t) : Move s t
  | entry (s : State) (p : Position) (st : Station) (other : p ≠ 0) (fits : s.MayHold p st) : Move s (s.setStation p st)

/-- A chain of elementary changes. -/
abbrev Chain : State → State → Prop := Relation.ReflTransGen Change

/-- A chain of moves. -/
abbrev Moves : State → State → Prop := Relation.ReflTransGen Move

theorem Chain.moves {s t : State} (chain : Chain s t) : Moves s t := Relation.ReflTransGen.mono (fun _ _ => .change) _ _ chain

/-! ## Operations as chains -/

theorem Chain.of_same {s t : State} (same : s.bare = t.bare) (counts : s.counters.Bounded → t.counters.Bounded := by exact id) : Chain s t :=
  .single (.nothing same counts)

theorem Chain.foldl {α : Type} {f : State → α → State} {keeps : State → Prop} {l : List α}
    (each : ∀ s a, keeps s → Chain s (f s a) ∧ keeps (f s a)) (s : State) (start : keeps s) :
    Chain s (l.foldl f s) ∧ keeps (l.foldl f s) := by
  induction l generalizing s with
  | nil => exact ⟨.refl, start⟩
  | cons a l ih =>
    obtain ⟨first, kept⟩ := each s a start
    obtain ⟨rest, kept'⟩ := ih (f s a) kept
    exact ⟨first.trans rest, kept'⟩

theorem Chain.foldl' {α : Type} {f : State → α → State} (each : ∀ s a, Chain s (f s a)) (l : List α) (s : State) : Chain s (l.foldl f s) :=
  (Chain.foldl (keeps := fun _ => True) (fun s a _ => ⟨each s a, trivial⟩) s trivial).1

theorem State.raiseAt_chain (f : EventFlag) (s : State) (p : Position) : Chain s (s.raiseAt f p) := by
  unfold State.raiseAt
  split
  next occupied =>
    have vacant (free : s.station p = freeStation) : { freeStation with flags := freeStation.flags ||| f.mask } = freeStation := by
      rw [free] at occupied; exact nomatch occupied
    exact .tail (.single (.watch (.marked s p (fun st => { st with flags := st.flags ||| f.mask }) (fun _ => rfl) vacant))) (.nothing rfl)
  · exact .refl

theorem State.raiseAll_chain (f : EventFlag) (s : State) : Chain s (s.raiseAll f) := Chain.foldl' (State.raiseAt_chain f) _ s

theorem State.configChanged_chain (s : State) (p : Position) : Chain s (s.configChanged p) :=
  Chain.foldl' (State.raiseAt_chain .configChanged) _ s

theorem State.nightEndTest_chain (s : State) : Chain s s.nightEndTest := by
  by_cases ends : s.NightEnds
  · rw [State.nightEndTest_of_ends ends]
    exact .trans (.single (.night (.daytime s (.inr ends.2)))) (State.raiseAll_chain _ _)
  · rw [State.nightEndTest_of_not_ends ends]

theorem State.enqueue_phase (s : State) (d : District) (why : QueueReason) : (s.enqueue d why).nck.phase = s.nck.phase := by
  unfold State.enqueue State.prompt; split <;> rfl

theorem State.completionCheck_chain (s : State) (d : District) (settling : s.nck.phase = .settling) :
    Chain s (s.completionCheck d) ∧ (s.completionCheck d).nck.phase = .settling := by
  unfold State.completionCheck
  split
  next open_ =>
    rw [Bool.and_eq_true, decide_eq_true_eq] at open_
    exact ⟨.single (.night (.joined s d .complete open_.1 settling)), (s.enqueue_phase d .complete).trans settling⟩
  · exact ⟨.refl, settling⟩

theorem State.checkSlotDistricts_chain (s : State) (sl : Slot) : Chain s (s.checkSlotDistricts sl) := by
  unfold State.checkSlotDistricts
  split
  next settling => exact (Chain.foldl State.completionCheck_chain s settling).1
  · exact .refl

theorem State.queueByGrace_chain (s : State) (d : District) (settling : s.nck.phase = .settling) :
    Chain s (s.queueByGrace d) ∧ (s.queueByGrace d).nck.phase = .settling := by
  unfold State.queueByGrace
  split
  next open_ => exact ⟨.single (.night (.joined s d .grace open_ settling)), (s.enqueue_phase d .grace).trans settling⟩
  · exact ⟨.refl, settling⟩

theorem State.closeByGrace_chain (s : State) (settling : s.nck.phase = .settling) : Chain s s.closeByGrace := by
  obtain ⟨queued, still⟩ := Chain.foldl (l := allDistricts) State.queueByGrace_chain s settling
  have left (d : District) : ((allDistricts.foldl State.queueByGrace s).district d).nightState ≠ .opened := by
    have same : (allDistricts.foldl State.queueByGrace s).district d = s.graceQueued.district d := by
      unfold State.graceQueued
      rw [State.queueByGraces_eq _ nodup_allDistricts]; rfl
    rw [same, State.graceQueued_district]
    split
    · nofun
    next other => exact other
  exact queued.trans (.head (.night (.graceEnded _ still left)) (State.nightEndTest_chain _))

theorem State.reachGraceExpiry_chain (s : State) : Chain s s.reachGraceExpiry := by
  unfold State.reachGraceExpiry
  split
  next settling => exact s.closeByGrace_chain settling
  · exact .refl

theorem State.reachWindowEnd_chain (s : State) : Chain s s.reachWindowEnd := by
  unfold State.reachWindowEnd
  split
  next collecting =>
    have ended := (Relation.ReflTransGen.single (Change.night (.windowEnded s collecting))).trans
      ((Chain.foldl (l := allDistricts) State.completionCheck_chain { s with nck.phase := .settling } rfl).1.trans
        (State.nightEndTest_chain _))
    dsimp only
    split
    · exact ended.trans (State.reachGraceExpiry_chain _)
    · exact ended
  · exact .refl

theorem State.removeHold_chain (s : State) (d : District) : Chain s (s.removeHold d) := by
  refine .single (.night (.unheld s (s.removeHold d).districts fun d' => ?_))
  have district := State.district_modDistrict s d d' (fun r => { r with hold := none })
  by_cases same : d' = d
  · subst same; exact .inr (district.trans (if_pos rfl))
  · exact .inl (district.trans (if_neg same))

theorem State.expireHold_chain (s : State) (d : District) : Chain s (s.expireHold d) := by
  unfold State.expireHold
  split
  next h _ => exact (s.removeHold_chain d).trans (((s.removeHold d).raiseAt_chain .holdEnded h.holder).tail (.night (.prompted _)))
  · exact .refl

theorem State.expireIfReached_chain (t : ClockTime) (s : State) (d : District) : Chain s (State.expireIfReached t s d) := by
  unfold State.expireIfReached
  split
  · split
    · exact s.expireHold_chain d
    · exact .refl
  · exact .refl

theorem State.choose_chain (s : State) : Chain s s.choose := by
  unfold State.choose
  split
  next due =>
    have idle : s.flight = none := by
      rw [Bool.and_eq_true, Option.isNone_iff_eq_none] at due
      exact due.2
    split
    next e chosen => exact .tail (.single (.night (.chose s))) (.night (.began { s with choiceDue := false } e chosen idle rfl))
    · exact .single (.night (.chose s))
  · exact .refl

theorem State.completeEvaluation_chain (s : State) : Chain s s.completeEvaluation := by
  unfold State.completeEvaluation
  split
  next f flight => exact .tail (.trans (.single (.night (.completed s f flight))) (State.nightEndTest_chain _)) (.night (.prompted _))
  · exact .refl

/-- Night `n` is within the calendar and later than the night before. -/
abbrev State.MayOpen (s : State) (n : Nat) : Prop := n ≤ 65535 ∧ ∀ m, s.nck.nightDay = some m → m < n

theorem State.mayOpen_of_eligible {s : State} {n : Nat} (fit : s.eligible n = true) : s.MayOpen n := by
  refine ⟨?_, fun m day => State.lt_of_eligible fit day⟩
  have total := (ClockTime.notAfter_iff (s.graceExpiryOf_proper n) (b := lastMinute) (by decide)).1 (State.fits_of_eligible fit)
  rw [State.graceExpiryOf_total] at total
  unfold ClockTime.total lastMinute at total
  dsimp only at total
  omega

theorem State.reachWindowStart_chain (s : State) (n : Nat) (may : s.MayOpen n) : Chain s (s.reachWindowStart n) := by
  unfold State.reachWindowStart
  split
  next daytime => exact .single (.night (.nightOpened s n (.inr (.inl daytime)) may.1 may.2))
  next closing =>
    have frame := State.abandonNight_eq (s := s) rfl
    have out : s.abandonNight.queue = [] ∧ s.abandonNight.flight = none := by
      generalize s.nightDropped _ = u at frame
      generalize s.abandonNight = t at *
      exact ⟨(congrArg State.queue frame).trans rfl, (congrArg State.flight frame).trans rfl⟩
    exact .tail (.single (.night (.nightAbandoned s closing))) (.night (.nightOpened _ n (.inr (.inr out)) may.1 (by rw [s.abandonNight_nck]; exact may.2)))
  all_goals exact .refl

theorem State.reach_chain (s : State) (e : ClockEvent) (may : ∀ n, e = .windowStart n → s.MayOpen n) : Chain s (s.reach e) := by
  cases e with
  | windowStart n => exact s.reachWindowStart_chain n (may n rfl)
  | windowEnd => exact s.reachWindowEnd_chain
  | graceExpiry => exact s.reachGraceExpiry_chain
  | holdExpiry d => exact s.expireHold_chain d

theorem State.reachInJump_chain (s : State) (e : ClockEvent) (may : ∀ n, e = .windowStart n → s.MayOpen n) : Chain s (s.reachInJump e) := by
  unfold State.reachInJump
  split
  · exact (s.reach_chain e may).trans (State.choose_chain _)
  · exact s.reach_chain e may

/-! ## The events of a span as a chain -/

/-- `u` is reached from `s`, and a night that `l` still opens may open. -/
structure State.Underway (s u : State) (l : List (ClockTime × ClockEvent)) : Prop where
  chain : Chain s u
  nodup : l.Nodup
  starts : ∀ x n, (x, .windowStart n) ∈ l → u.MayOpen n
  oneStart : ∀ x n y m, (x, .windowStart n) ∈ l → (y, .windowStart m) ∈ l → x = y ∧ n = m

/-- Only a window start moves the night day. -/
theorem State.reach_nightDay (s : State) (e : ClockEvent) (other : ∀ n, e ≠ .windowStart n) : (s.reach e).nck.nightDay = s.nck.nightDay := by
  obtain ⟨-, moves⟩ := s.reach_moves e
  cases e with
  | windowStart n => exact absurd rfl (other n)
  | windowEnd =>
    rw [nightMoves_windowEnd] at moves
    split at moves
    · exact moves.1
    · exact moves.2
  | graceExpiry =>
    rw [nightMoves_graceExpiry] at moves
    split at moves
    · exact moves.1
    · exact moves.2
  | holdExpiry d => exact moves.2

theorem State.Underway.take {s u : State} {l : List (ClockTime × ClockEvent)} (h : s.Underway u l) {e : ClockTime × ClockEvent} (mem : e ∈ l)
    {v : State} (chain : (∀ n, e.2 = .windowStart n → u.MayOpen n) → Chain u v) (nck : v.nck = (u.reach e.2).nck) :
    s.Underway v (l.erase e) := by
  obtain ⟨x, k⟩ := e
  refine ⟨h.chain.trans (chain fun n start => h.starts x n (start ▸ mem)), h.nodup.erase _, fun y n left => ?_, fun y n z m left left' =>
    h.oneStart y n z m (List.mem_of_mem_erase left) (List.mem_of_mem_erase left')⟩
  have before := List.mem_of_mem_erase left
  have other : ∀ m, k ≠ .windowStart m := by
    rintro m rfl
    obtain ⟨rfl, rfl⟩ := h.oneStart x m y n mem before
    exact (h.nodup.mem_erase_iff.1 left).1 rfl
  have same : v.nck.nightDay = u.nck.nightDay := (congrArg NightClock.nightDay nck).trans (u.reach_nightDay k other)
  obtain ⟨day, later⟩ := h.starts y n before
  exact ⟨day, fun m night => later m (same.symm.trans night)⟩

theorem State.underway_agenda {s : State} (night : s.nightInProgress = true → s.nck.nightDay ≠ none) (t0 t1 : ClockTime) :
    s.Underway s (s.agenda t0 t1) := by
  refine ⟨.refl, State.agenda_nodup night, fun x n mem => ?_, fun x n y m mem mem' => ?_⟩
  · exact State.mayOpen_of_eligible (State.latestStart_eq_some ((s.start_mem_agenda t0 t1 x n).1 mem).1).1.2.2
  · obtain ⟨found, rfl⟩ := (s.start_mem_agenda t0 t1 x n).1 mem
    obtain ⟨found', rfl⟩ := (s.start_mem_agenda t0 t1 y m).1 mem'
    obtain rfl := Option.some.inj (found.symm.trans found')
    exact ⟨rfl, rfl⟩

/-- The events of a span are a chain, however each is taken. -/
theorem State.takeSpan_chain {s : State} (night : s.nightInProgress = true → s.nck.nightDay ≠ none) {take : State → ClockEvent → State}
    (each : ∀ u e, (∀ n, e = .windowStart n → u.MayOpen n) → Chain u (take u e)) (nck : ∀ u e, (take u e).nck = (u.reach e).nck)
    (t0 t1 : ClockTime) : Chain s (s.takeSpan take t0 t1) := by
  refine (State.runAgenda_keeps (P := s.Underway) (fun u l k h => ?_) (fun u l e h first => ?_) _ _ (le_refl _) s
    (State.underway_agenda night t0 t1)).chain
  · exact ⟨h.chain.tail (.nothing rfl), h.nodup, h.starts, h.oneStart⟩
  · exact h.take first.1 (each u e.2) (nck u e.2)

theorem State.minuteEvent_chain {s : State} (night : s.nightInProgress = true → s.nck.nightDay ≠ none) : Chain s s.minuteEvent := by
  unfold State.minuteEvent
  split
  · split
    · exact .of_same rfl
    · exact (Chain.of_same (s := s) (t := s.minuteOn (s.nck.clock.plus 1)) rfl).trans
        (State.takeSpan_chain (s := s.minuteOn (s.nck.clock.plus 1)) night State.reach_chain (fun _ _ => rfl) _ _)
  · exact .refl

theorem State.forwardSet_chain {s : State} (night : s.nightInProgress = true → s.nck.nightDay ≠ none) (t : ClockTime) :
    Chain s (s.forwardSet t) :=
  (Chain.of_same (s := s) (t := s.placeClock t) rfl).trans (State.takeSpan_chain (s := s.placeClock t) night State.reachInJump_chain State.reachInJump_nck _ _)

end Sys2Proof.Machine
end

section
/-!
PROOF. Every request is a chain of elementary changes (R184).
-/

namespace Sys2Proof.Machine

/-! ## Ranges of what a body can hold -/

theorem word32_le (b3 b2 b1 b0 : Byte) : word32 b3 b2 b1 b0 ≤ 4294967295 := by
  have := b3.isLt; have := b2.isLt; have := b1.isLt; have := b0.isLt
  rw [word32_eq]; omega

theorem signed32_range (b3 b2 b1 b0 : Byte) : -2147483648 ≤ signed32 b3 b2 b1 b0 ∧ signed32 b3 b2 b1 b0 ≤ 2147483647 := by
  have low := BitVec.le_toInt (BitVec.ofNat 32 (word32 b3 b2 b1 b0))
  have high := BitVec.toInt_lt (x := BitVec.ofNat 32 (word32 b3 b2 b1 b0))
  unfold signed32
  omega

theorem readRingEntries_range {bytes : List Byte} {es : List RingEntry} (read : readRingEntries bytes = some es) :
    ∀ e ∈ es, e.nightDay ≤ 65535 ∧ -2147483648 ≤ e.figure ∧ e.figure ≤ 2147483647 := by
  induction bytes using readRingEntries.induct generalizing es with
  | case1 => cases read; nofun
  | case2 n1 n0 f3 f2 f1 f0 rest tail h ih =>
    simp only [readRingEntries, h, Option.some.injEq] at read
    subst read
    intro e mem
    rcases List.mem_cons.1 mem with rfl | mem
    · exact ⟨word16_le n1 n0, signed32_range f3 f2 f1 f0⟩
    · exact ih h e mem
  | case3 n1 n0 f3 f2 f1 f0 rest h ih => simp [readRingEntries, h] at read
  | case4 bytes some_ other =>
    rw [readRingEntries] at read
    · exact nomatch read
    · exact some_
    · exact other

/-- Identifiers of the entries of a packed body that passes its checks (R41). -/
theorem readReadings_identifier {body : List Byte} {es : List Entry} (read : readReadings body = .ok es) :
    ∀ e ∈ es, 1 ≤ e.identifier ∧ e.identifier ≤ 4294967295 := by
  rw [readReadings_eq] at read
  dsimp only at read
  split_ifs at read with short count size out
  cases read
  intro e mem
  obtain ⟨k, inside, rfl⟩ := List.mem_map.1 mem
  have named : ¬ (rawEntryAt body k).identifier = 0 := fun zero => out ⟨k, inside, .inl zero⟩
  exact ⟨Nat.one_le_iff_ne_zero.2 named, word32_le _ _ _ _⟩

theorem ConfigFields.params_range {f : ConfigFields} {ps : Params} (asked : f.params = some ps) (properties : f.properties ≤ 65535)
    (tAbs : f.tAbs ≤ 65535) (tRel : f.tRel ≤ 255) {l : Nat} (m : f.m ≤ l ∨ ps.m ≤ l) : ParamsInRange l ps := by
  unfold ConfigFields.params at asked
  split at asked
  · exact nomatch asked
  · split at asked
    · cases asked
      simp only [or_self] at m
      unfold ParamsInRange
      tauto
    · exact nomatch asked

/-! ## The Night Clock (sections 1.6 to 1.9) -/

section
variable (s : State) (p : Position) (body : List Byte)

theorem accept_state (s : State) (out : List Byte) : (accept s out).1 = s := rfl

theorem State.firstPlaced_chain (t : ClockTime) (stopped : s.nck.phase = .stopped) : Chain s (s.firstPlaced t) :=
  .head (.night (.daytime s (.inl stopped))) ((Chain.of_same (s := { s with nck.phase := .daytime })
    (t := { s with nck.clock := t, nck.divider := 0, nck.clockSet := true, nck.phase := .daytime }) rfl).trans
      (Chain.foldl' (State.expireIfReached_chain t) _ _))

theorem State.firstSet_chain (t : ClockTime) (stopped : s.nck.phase = .stopped) : Chain s (s.firstSet t) := by
  have placed := s.firstPlaced_chain t stopped
  have nck := s.firstPlaced_nck t
  rw [State.firstSet_eq]
  generalize s.firstPlaced t = u at placed nck ⊢
  split
  next opens =>
    obtain ⟨day, later⟩ := State.mayOpen_of_eligible opens.2.2
    have before : u.nck.nightDay = s.nck.nightDay := by rw [nck]
    have phase : u.nck.phase = .daytime := by rw [nck]
    have opened : Change (u.clockAt (s.windowStartOf t.day)) ((u.clockAt (s.windowStartOf t.day)).openNight t.day) :=
      .night (.nightOpened _ t.day (.inr (.inl phase)) day fun m night => later m (before.symm.trans night))
    generalize (u.clockAt (s.windowStartOf t.day)).openNight t.day = v at opened ⊢
    exact placed.trans ((Chain.of_same (s := u) (t := u.clockAt (s.windowStartOf t.day)) rfl).trans (.head opened (Chain.of_same rfl)))
  · exact placed

theorem setTime_chain (clock : ClockLaw s) : Chain s (setTime s p body).1 := by
  obtain ⟨-, -, -, -, -, -, -, -, stopped, -, night, -⟩ := clock
  unfold setTime
  split
  · exact .refl
  · split_ifs with range set same later
    · exact .refl
    · exact s.firstSet_chain _ (stopped.2 (by simpa using set))
    · exact .of_same rfl
    · exact State.forwardSet_chain night _
    · exact .of_same rfl
    · exact .refl

theorem setWindow_chain : Chain s (setWindow s p body).1 := by
  unfold setWindow
  split
  · exact .refl
  next f _ =>
    split_ifs with night range
    · exact .refl
    · exact .refl
    · refine .single (.watch (.resized s _ _ _ fun d => Nat.not_lt.1 fun short => range ?_))
      exact .inr (.inr (.inr (.inr (.inr ((s.any_districts _).2 ⟨d, decide_eq_true short⟩)))))

theorem closeNight_chain : Chain s (closeNight s p body).1 := by
  unfold closeNight
  split_ifs with size settling
  · exact .refl
  · rw [accept_state]; exact s.closeByGrace_chain settling
  · exact .refl

theorem restartEngine_chain : Chain s (restartEngine s p body).1 := by
  unfold restartEngine
  split_ifs
  · exact .refl
  · rw [accept_state]; exact .single (.night (.restarted s))

/-! ## The Meter Directory (chapter 2) -/

theorem boundSlot_consistent {identifier : Nat} {primary secondary : Option MeterLink} (protect : Bool) (fits : identifier ≤ 4294967295)
    (range : bindRange identifier primary secondary = false) : (boundSlot identifier primary secondary protect).Consistent := by
  have refused := mt (bindRange_iff identifier primary secondary).2 (by rw [range]; decide)
  simp only [not_or, not_and, not_not] at refused
  obtain ⟨apart, linked, unlinked, -⟩ := refused
  have cell (c : Fin 16) : (boundSlot identifier primary secondary protect).cells.get c = emptyCell := Table.get_replicate _ c
  refine ⟨fun zero => ?_, fun named => ⟨linked named, fun same => ?_⟩, fits, rfl, Nat.zero_le _, Nat.zero_le _, fun c => ?_⟩
  · have zero : identifier = 0 := zero
    obtain ⟨rfl, rfl⟩ := unlinked zero
    subst zero
    unfold boundSlot
    rw [decide_eq_false (not_not.2 rfl), Bool.and_false]
    rfl
  · by_cases second : secondary = none
    · have first : primary.map (·.district) = none := same.trans (congrArg (Option.map (·.district)) second)
      exact linked named (Option.map_eq_none_iff.1 first)
    · exact apart second same
  · rw [cell]; exact ⟨by decide, fun _ => rfl⟩

theorem bindMeter_chain : Chain s (bindMeter s p body).1 := by
  unfold bindMeter
  split
  · exact .refl
  next f read =>
    split
    · dsimp only
      split_ifs with range enabled busy locked
      · exact .refl
      · exact .refl
      · exact .refl
      · exact .refl
      · refine .trans (.single (.store (.bound s f.slot _ ⟨Bool.eq_false_iff.2 enabled, rfl, ?_⟩))) (State.configChanged_chain _ p)
        refine boundSlot_consistent f.protect ?_ (Bool.eq_false_iff.2 range)
        unfold readBind at read
        split at read
        · cases read; exact word32_le _ _ _ _
        · exact nomatch read
    · exact .refl

theorem enableMeter_chain : Chain s (enableMeter s p body).1 := by
  unfold enableMeter
  split
  · exact .refl
  next b _ =>
    dsimp only
    split_ifs with unbound enabled twice busy locked
    · exact .refl
    · exact .refl
    · exact .refl
    · exact .refl
    · exact .refl
    · refine .trans (.single (.store (.slotEnabled s (slotOf b) unbound fun j on same => twice ?_))) (State.configChanged_chain _ p)
      exact (s.any_slots _).2 ⟨j, by rw [on, same, decide_eq_true rfl]; rfl⟩

theorem disableMeter_chain : Chain s (disableMeter s p body).1 := by
  unfold disableMeter
  split
  · exact .refl
  next b _ =>
    dsimp only
    split_ifs
    · exact .refl
    · exact .refl
    · exact .refl
    · exact .trans (.head (.store (.slotDisabled s (slotOf b))) (State.checkSlotDistricts_chain _ _)) (State.configChanged_chain _ p)

theorem forgetStrays_chain : Chain s (forgetStrays s p body).1 := by
  unfold forgetStrays
  split_ifs
  · exact .refl
  · exact .single (.store (.straysForgotten s))

/-! ## Readings and pressures (chapter 3) -/

theorem State.fileEntry_chain (i : SlotIndex) (interval volume : Nat) (estimated clamped : Bool) (used : (s.slot i).enabled = true)
    (fits : volume ≤ 1048575) : Chain s (s.fileEntry i interval volume estimated clamped).1 := by
  have filed : Chain s _ := .single (.store (.filed s i (s.cellIndex interval) volume estimated used fits))
  unfold State.fileEntry
  dsimp only
  split
  · exact filed.trans ((Chain.of_same (by rfl) Counters.Bounded.stored).trans (State.checkSlotDistricts_chain _ _))
  · exact filed

theorem State.fileEntry_nck (i : SlotIndex) (interval volume : Nat) (estimated clamped : Bool) :
    (s.fileEntry i interval volume estimated clamped).1.nck = s.nck := by
  unfold State.fileEntry
  dsimp only
  split
  · rw [State.checkSlotDistricts_frame]; rfl
  · rfl

theorem State.examine_nck (e : Entry) : (s.examine e).1.nck = s.nck := by
  unfold State.examine
  dsimp only
  split
  · rfl
  next i _ =>
    generalize (if decide (1048575 < e.volume) = true then 1048575 else e.volume) = v
    split_ifs
    · rfl
    · rfl
    · rfl
    · rfl
    · exact s.fileEntry_nck i _ _ _ _

theorem State.examine_chain (e : Entry) (low : 1 ≤ e.identifier) (high : e.identifier ≤ 4294967295) (day : s.nck.clock.day ≤ 65535) :
    Chain s (s.examine e).1 := by
  have volume : (if decide (1048575 < e.volume) = true then 1048575 else e.volume) ≤ 1048575 := by
    split
    · exact le_refl _
    next fits => exact Nat.not_lt.1 fun big => fits (decide_eq_true big)
  unfold State.examine
  dsimp only
  generalize (if decide (1048575 < e.volume) = true then 1048575 else e.volume) = v at volume
  split
  next unknown =>
    exact .tail (.single (.store (.straySeen s e.identifier s.nck.clock.day unknown low high day))) (.nothing rfl Counters.Bounded.unknownMeter)
  next i found =>
    have passes := List.find?_some (show List.find? _ _ = some i from found)
    have used : (s.slot i).enabled = true := (Bool.and_eq_true_iff.1 passes).1
    split_ifs
    · exact .refl
    · exact .refl
    · exact .of_same rfl Counters.Bounded.late
    · exact .refl
    · exact s.fileEntry_chain i _ _ _ _ used volume

theorem State.examineAll_chain {es : List Entry} (named : ∀ e ∈ es, 1 ≤ e.identifier ∧ e.identifier ≤ 4294967295)
    (day : s.nck.clock.day ≤ 65535) : Chain s (s.examineAll es).1 := by
  induction es generalizing s with
  | nil => exact .refl
  | cons e es ih =>
    obtain ⟨low, high⟩ := named e List.mem_cons_self
    exact (s.examine_chain e low high day).trans
      (ih _ (fun x mem => named x (List.mem_cons_of_mem e mem)) (by rw [State.examine_nck]; exact day))

theorem postReading_chain (day : s.nck.clock.day ≤ 65535) : Chain s (postReading s p body).1 := by
  unfold postReading
  split
  · exact .refl
  · split
    · exact .refl
    next es read => exact s.examineAll_chain (readReadings_identifier read) day

theorem State.judgePressure_chain (d : District) (day interval value : Nat) : Chain s (s.judgePressure d day interval value).1 := by
  have fits : (if decide (2000 < value) = true then 2000 else value) ≤ 2000 := by
    split
    · exact le_refl _
    next fits => exact Nat.not_lt.1 fun big => fits (decide_eq_true big)
  unfold State.judgePressure
  dsimp only
  generalize (if decide (2000 < value) = true then 2000 else value) = v at fits
  split_ifs
  · exact .refl
  · exact .refl
  · exact .refl
  · exact .refl
  · exact .single (.store (.pressed s d _ _ fits))

theorem postPressure_chain : Chain s (postPressure s p body).1 := by
  unfold postPressure
  split
  · exact .refl
  · split
    · exact .refl
    · split
      · exact .refl
      · split
        · exact .refl
        · exact s.judgePressure_chain _ _ _ _

/-! ## Districts (chapter 4) -/

theorem readConfig_range {body : List Byte} {f : ConfigFields} (read : readConfig body = some f) :
    f.properties ≤ 65535 ∧ f.tAbs ≤ 65535 ∧ f.tRel ≤ 255 := by
  unfold readConfig at read
  split at read
  next tr _ _ _ _ =>
    cases read
    exact ⟨word16_le _ _, word16_le _ _, Nat.le_of_lt_succ tr.isLt⟩
  · exact nomatch read

theorem configureDistrict_chain : Chain s (configureDistrict s p body).1 := by
  unfold configureDistrict
  split
  · exact .refl
  next f read =>
    obtain ⟨properties, tAbs, tRel⟩ := readConfig_range read
    split
    next d ps _ asked =>
      split_ifs with long
      · exact .refl
      · split
        · exact .refl
        · exact .trans (.single (.watch (.configured s d ps (ConfigFields.params_range asked properties tAbs tRel (.inr (Nat.not_lt.1 long))))))
            (State.configChanged_chain _ p)
    · exact .refl

theorem State.takeOut_chain (d : District) (free : (s.district d).nightState ≠ .evaluating) : Chain s (s.takeOut d) := by
  unfold State.takeOut
  dsimp only
  have out := Change.night (.outOfService s d free)
  generalize State.changeAlert _ d .none = u at out ⊢
  refine .trans (.head out ?_) (State.nightEndTest_chain _)
  split
  · exact (u.removeHold_chain d).tail (.night (.prompted _))
  · exact .refl

theorem setService_chain : Chain s (setService s p body).1 := by
  unfold setService
  split
  · exact .refl
  next b r _ =>
    split
    · exact .refl
    next d _ =>
      split_ifs with code same into
      · exact .refl
      · exact .refl
      · split
        · exact .refl
        · have out : (s.district d).inService = false := by
            rw [decide_eq_true into] at same
            exact Bool.eq_false_iff.2 same
          exact .trans (.single (.night (.intoService s d out))) (State.configChanged_chain _ p)
      · split
        · exact .refl
        next free =>
          exact .trans (s.takeOut_chain d ((s.guarded_eq_none p d).1 free).1) (State.configChanged_chain _ p)

theorem holdDistrict_chain (day : s.nck.clock.day ≤ 65535) (minute : s.nck.clock.minute ≤ 1439) : Chain s (holdDistrict s p body).1 := by
  unfold holdDistrict
  split
  · exact .refl
  next b minutes _ =>
    split
    · exact .refl
    next d _ =>
      split_ifs
      · exact .refl
      · split
        · exact .refl
        next free =>
          refine .single (.night (.held s d _ ((s.guarded_eq_none p d).1 free).1 ?_ (ClockTime.plus_proper _ _)))
          have most : min minutes 240 ≤ 240 := Nat.min_le_right _ _
          unfold ClockTime.plus
          dsimp only
          omega

theorem releaseDistrict_chain : Chain s (releaseDistrict s p body).1 := by
  unfold releaseDistrict
  split
  · exact .refl
  · split
    · exact .refl
    next d _ =>
      split
      · exact .refl
      · split_ifs
        · exact (s.removeHold_chain d).tail (.night (.prompted _))
        · exact .refl

/-! ## Baselines (chapter 7) -/

theorem setBaselineMode_chain : Chain s (setBaselineMode s p body).1 := by
  unfold setBaselineMode
  split
  · exact .refl
  next f _ =>
    split
    next d mode _ _ =>
      split_ifs with range
      · exact .refl
      · split
        · exact .refl
        · obtain ⟨low, high, fits⟩ : ¬ f.rank < 1 ∧ ¬ 4 < f.rank ∧ ¬ 16777215 < f.fixed := by simpa only [not_or] using range
          exact .tail (.trans (.single (.store (.modeSet s d mode f.rank f.fixed (Nat.not_lt.1 low) (Nat.not_lt.1 high) (Nat.not_lt.1 fits))))
            (State.configChanged_chain _ p)) (.watch (.rejudged _ d))
    · exact .refl

theorem readLoadRing_range {body : List Byte} {f : RingFields} (read : readLoadRing body = some f) :
    ∀ e ∈ f.entries, e.nightDay ≤ 65535 ∧ -2147483648 ≤ e.figure ∧ e.figure ≤ 2147483647 := by
  unfold readLoadRing at read
  split at read
  · split at read
    next es entries =>
      split at read
      · cases read; exact readRingEntries_range entries
      · exact nomatch read
    · exact nomatch read
  · exact nomatch read

theorem loadRing_chain : Chain s (loadRing s p body).1 := by
  unfold loadRing
  split
  · exact .refl
  next f read =>
    split
    · exact .refl
    next d _ =>
      split_ifs with range
      · exact .refl
      · split
        · exact .refl
        · obtain ⟨few, rises, -⟩ : ¬ 8 < f.entries.length ∧ ¬ ringRises f.entries = false ∧ ¬ s.ringNotLater f.entries = false := by
            simpa only [not_or] using range
          exact .tail (.trans (.single (.store (.ringSet s d f.entries (Nat.not_lt.1 few)
            ((ringRises_iff f.entries).1 (Bool.eq_true_of_not_eq_false rises)) (readLoadRing_range read))))
            (State.configChanged_chain _ p)) (.watch (.rejudged _ d))

theorem clearRing_chain : Chain s (clearRing s p body).1 := by
  unfold clearRing
  split
  · exact .refl
  · split
    · exact .refl
    next d _ =>
      split
      · exact .refl
      · exact .tail (.trans (.single (.store (.ringSet s d [] (Nat.zero_le _) .nil nofun))) (State.configChanged_chain _ p)) (.watch (.rejudged _ d))

/-! ## Watches and stations (chapters 8 and 9) -/

theorem acknowledge_chain : Chain s (acknowledge s p body).1 := by
  unfold acknowledge
  split
  · exact .refl
  · split
    · exact .refl
    next d _ =>
      split_ifs with locked may
      · exact .refl
      · exact .refl
      · rw [accept_state]
        exact .single (.watch (.acknowledged s d (by rw [not_and_or, not_not, not_not] at may; exact may)))

theorem markRepaired_chain : Chain s (markRepaired s p body).1 := by
  unfold markRepaired
  split
  · exact .refl
  · split
    · exact .refl
    next d _ =>
      split_ifs with locked may
      · exact .refl
      · exact .refl
      · rw [accept_state]
        exact .single (.watch (.repaired s d (by rw [not_and_or, not_not, not_not] at may; exact may)))

theorem State.addressTaken_eq_false {s : State} {p : Position} {a : BitVec 4} (free : s.addressTaken p a = false) (q : Position) (other : q ≠ p)
    (occupied : (s.station q).role ≠ none) : (s.station q).address ≠ a := by
  intro same
  have none_taken := List.any_eq_false.1 free q (List.mem_finRange q)
  refine none_taken ?_
  rw [Bool.and_eq_true, Bool.and_eq_true, decide_eq_true_eq, decide_eq_true_eq]
  exact ⟨⟨other, Option.isSome_iff_ne_none.2 occupied⟩, same⟩

/-- SET STATION accepted writes an entry of positions 1 to 3 (R161). -/
theorem setStation_writes :
    (setStation s p body).1 = s ∨ ∃ q st, q ≠ 0 ∧ s.MayHold q st ∧ (setStation s p body).1 = s.setStation q st := by
  unfold setStation
  split
  · exact .inl rfl
  next f _ =>
    split
    · exact .inl rfl
    next role _ =>
      split
      next place =>
        have other : (⟨f.position, place.2⟩ : Position) ≠ 0 := fun zero => by
          have := congrArg Fin.val zero
          have := place.1
          simp only [Fin.val_zero] at *
          omega
        dsimp only
        split
        · exact .inl rfl
        · split
          · exact .inl rfl
          · rw [accept_state]; exact .inr ⟨_, _, other, .inl rfl, rfl⟩
          next r telemetry _ =>
            split_ifs with address taken_
            · exact .inl rfl
            · exact .inl rfl
            · rw [accept_state]
              refine .inr ⟨_, _, other, ?_, rfl⟩
              refine .inr ⟨nofun, fun same => telemetry (Option.some.inj same), fun zero => ?_, ?_⟩
              · have := congrArg BitVec.toNat zero
                simp only [BitVec.toNat_ofNat, not_or] at this address
                omega
              · exact State.addressTaken_eq_false (Bool.eq_false_iff.2 taken_)
      · exact .inl rfl

theorem setEventMask_chain (asks : (s.station p).role ≠ none) : Chain s (setEventMask s p body).1 := by
  unfold setEventMask
  split
  · exact .refl
  next m _ =>
    split_ifs
    · exact .refl
    · exact .single (.watch (.marked s p (fun st => { st with eventMask := BitVec.ofNat 5 m.toNat }) (fun _ => rfl)
        fun free => absurd (congrArg Station.role free) asks))

theorem takeNotice_chain : Chain s (takeNotice s p body).1 := by
  unfold takeNotice
  split_ifs
  · exact .refl
  · split
    · exact .refl
    · exact .of_same rfl

theorem readEvents_chain : Chain s (readEvents s p body).1 := by
  unfold readEvents
  split_ifs
  · exact .refl
  · exact .of_same rfl

theorem clearCounters_chain : Chain s (clearCounters s p body).1 := by
  unfold clearCounters
  split_ifs
  · exact .refl
  · exact .of_same rfl fun _ => zeroCounters_bounded

/-! ## Reads -/

theorem readMeter_state : (readMeter s p body).1 = s := by unfold readMeter; split <;> rfl

theorem readStrayList_state : (readStrayList s p body).1 = s := by unfold readStrayList; split_ifs <;> rfl

theorem readDistrict_state : (readDistrict s p body).1 = s := by
  unfold readDistrict
  split
  · rfl
  · split <;> rfl

theorem readResult_state : (readResult s p body).1 = s := by
  unfold readResult
  split
  · rfl
  · split
    · rfl
    · split <;> rfl

theorem readQueue_state : (readQueue s p body).1 = s := by unfold readQueue; split_ifs <;> rfl

theorem readRing_state : (readRing s p body).1 = s := by
  unfold readRing
  split
  · rfl
  · split <;> rfl

theorem readWatch_state : (readWatch s p body).1 = s := by
  unfold readWatch
  split
  · rfl
  · split <;> rfl

theorem readStatus_state : (readStatus s p body).1 = s := by unfold readStatus; split_ifs <;> rfl

/-! ## Every request -/

theorem Chain.of_eq {s t : State} (same : t = s) : Chain s t := same ▸ .refl

/-- The requests whose effect reads the clock time. -/
def readsClock : Kind → Bool
  | .setTime | .postReading | .holdDistrict => true
  | _ => false

theorem handle_chain_of_untimed {k : Kind} (untimed : readsClock k = false) (other : k ≠ .setStation) (asks : (s.station p).role ≠ none) :
    Chain s (handle k s p body).1 := by
  cases k with
  | setTime => exact nomatch untimed
  | setWindow => exact setWindow_chain s p body
  | closeNight => exact closeNight_chain s p body
  | restartEngine => exact restartEngine_chain s p body
  | bindMeter => exact bindMeter_chain s p body
  | enableMeter => exact enableMeter_chain s p body
  | disableMeter => exact disableMeter_chain s p body
  | readMeter => exact .of_eq (readMeter_state s p body)
  | readStrayList => exact .of_eq (readStrayList_state s p body)
  | forgetStrays => exact forgetStrays_chain s p body
  | postReading => exact nomatch untimed
  | postPressure => exact postPressure_chain s p body
  | configureDistrict => exact configureDistrict_chain s p body
  | setService => exact setService_chain s p body
  | holdDistrict => exact nomatch untimed
  | releaseDistrict => exact releaseDistrict_chain s p body
  | readDistrict => exact .of_eq (readDistrict_state s p body)
  | readResult => exact .of_eq (readResult_state s p body)
  | readQueue => exact .of_eq (readQueue_state s p body)
  | setBaselineMode => exact setBaselineMode_chain s p body
  | loadRing => exact loadRing_chain s p body
  | clearRing => exact clearRing_chain s p body
  | readRing => exact .of_eq (readRing_state s p body)
  | acknowledge => exact acknowledge_chain s p body
  | markRepaired => exact markRepaired_chain s p body
  | readWatch => exact .of_eq (readWatch_state s p body)
  | setStation => exact absurd rfl other
  | setEventMask => exact setEventMask_chain s p body asks
  | takeNotice => exact takeNotice_chain s p body
  | readEvents => exact readEvents_chain s p body
  | readStatus => exact .of_eq (readStatus_state s p body)
  | clearCounters => exact clearCounters_chain s p body

theorem handle_chain {k : Kind} (other : k ≠ .setStation) (asks : (s.station p).role ≠ none) (clock : ClockLaw s) :
    Chain s (handle k s p body).1 := by
  by_cases untimed : readsClock k = false
  · exact handle_chain_of_untimed s p body untimed other asks
  · cases k with
    | setTime => exact setTime_chain s p body clock
    | postReading => exact postReading_chain s p body clock.1
    | holdDistrict => exact holdDistrict_chain s p body clock.1 clock.2.1
    | _ => exact absurd rfl untimed

end

end Sys2Proof.Machine
end

section
/-!
PROOF. What a frame end can do, what a step can do, and every step as a chain of elementary changes or a reset.
-/

namespace Sys2Proof.Machine

/-! ## What the link does to the units (R167 to R169, R176 to R189) -/

/-- One elementary change that the link makes without a request. -/
inductive LinkChange : State → State → Prop
  | moved (s : State) (l : Link) (r : RequestHandler) (c : Counters) (counts : s.counters.Bounded → c.Bounded := by exact id) :
    LinkChange s { s with link := l, rqh := r, counters := c }
  | raised (s : State) (f : EventFlag) (p : Position) : LinkChange s (s.raiseAt f p)
  | cleared (s : State) (p : Position) (flags : BitVec 5) : LinkChange s (s.modStation p (fun st => { st with flags := st.flags &&& ~~~ flags }))
  | delivered (s : State) (p : Position) (d : District) : LinkChange s ((s.dropPending p d).endCleared d)

abbrev LinkChain : State → State → Prop := Relation.ReflTransGen LinkChange

theorem LinkChange.nck {s t : State} (change : LinkChange s t) : t.nck = s.nck := by
  cases change with
  | moved l r c => rfl
  | raised f p => rw [State.raiseAt_frame]
  | cleared p flags => rfl
  | delivered p d => rw [State.endCleared_frame]; rfl

theorem LinkChain.nck {s t : State} (chain : LinkChain s t) : t.nck = s.nck := by
  induction chain with
  | refl => rfl
  | tail _ change ih => exact change.nck.trans ih

theorem LinkChain.chain {s t : State} (chain : LinkChain s t) : Chain s t := by
  induction chain with
  | refl => exact .refl
  | tail _ change ih =>
    refine ih.trans ?_
    cases change with
    | moved l r c counts => exact Chain.of_same rfl counts
    | raised f p => exact State.raiseAt_chain f _ p
    | cleared p flags =>
      have vacant : { freeStation with flags := freeStation.flags &&& ~~~ flags } = freeStation := by simp [freeStation]
      exact .single (.watch (.marked _ p (fun st => { st with flags := st.flags &&& ~~~ flags }) (fun _ => rfl) fun _ => vacant))
    | delivered p d => exact .single (.watch (.delivered _ p d))

/-- A frame end: the link moves, and at most one request is served. -/
def State.Frame (s t : State) : Prop :=
  LinkChain s t ∨ ∃ u k p body, LinkChain s u ∧ (u.station p).role ≠ none ∧ LinkChain (handle k u p body).1 t

section
variable {c : Counters} (h : c.Bounded)
include h

theorem Counters.Bounded.unknownContention : Counters.Bounded { c with unknownContentions := bump 65535 c.unknownContentions } := by
  obtain ⟨check, length, -, rest⟩ := h
  exact ⟨check, length, bump_le _ _, rest⟩

theorem Counters.Bounded.fairnessDiscard : Counters.Bounded { c with fairnessDiscards := bump 65535 c.fairnessDiscards } := by
  obtain ⟨check, length, unknown, -, rest⟩ := h
  exact ⟨check, length, unknown, bump_le _ _, rest⟩

theorem Counters.Bounded.timeout : Counters.Bounded { c with handshakeTimeouts := bump 65535 c.handshakeTimeouts } := by
  obtain ⟨check, length, unknown, fairness, -, rest⟩ := h
  exact ⟨check, length, unknown, fairness, bump_le _ _, rest⟩

theorem Counters.Bounded.linkBreak : Counters.Bounded { c with linkBreaks := bump 65535 c.linkBreaks } := by
  obtain ⟨check, length, unknown, fairness, timeouts, -, rest⟩ := h
  exact ⟨check, length, unknown, fairness, timeouts, bump_le _ _, rest⟩

theorem Counters.Bounded.afterEnvelope (st : Status) : (c.afterEnvelope st).Bounded := by
  obtain ⟨check, length, rest⟩ := id h
  unfold Counters.afterEnvelope
  split
  · exact ⟨check, bump_le _ _, rest⟩
  · exact ⟨bump_le _ _, length, rest⟩
  · exact h

end

theorem LinkChain.of_link {s : State} (l : Link) : LinkChain s { s with link := l } := .single (.moved s l s.rqh s.counters)

theorem State.Frame.after {s u t : State} (frame : s.Frame u) (chain : LinkChain u t) : s.Frame t := by
  rcases frame with quiet | ⟨v, k, p, body, first, asks, rest⟩
  · exact .inl (quiet.trans chain)
  · exact .inr ⟨v, k, p, body, first, asks, rest.trans chain⟩

theorem State.Frame.before {s u t : State} (chain : LinkChain s u) (frame : u.Frame t) : s.Frame t := by
  rcases frame with quiet | ⟨v, k, p, body, first, asks, rest⟩
  · exact .inl (chain.trans quiet)
  · exact .inr ⟨v, k, p, body, chain.trans first, asks, rest⟩

theorem State.Frame.nextFrame {s t : State} (frame : s.Frame t) : s.Frame t.nextFrame := frame.after (.of_link _)

section
variable (s : State)

theorem State.endGrant_links : LinkChain s s.endGrant := by
  unfold State.endGrant
  split
  · exact .single (.moved s _ _ s.counters)
  · exact .refl

theorem State.commitNotice_links : LinkChain s s.commitNotice := by
  unfold State.commitNotice
  split
  · split
    · exact .single (.delivered s _ _)
    · exact .refl
  · exact .refl

theorem State.commitEvents_links : LinkChain s s.commitEvents := by
  unfold State.commitEvents
  split
  · exact .single (.cleared s _ _)
  · exact .refl

theorem State.completeAnswer_links : LinkChain s s.completeAnswer :=
  s.commitNotice_links.trans ((State.commitEvents_links _).trans (State.endGrant_links _))

theorem State.timeOut_links : LinkChain s s.timeOut := by
  have counted : LinkChain s { s with counters.handshakeTimeouts := bump 65535 s.counters.handshakeTimeouts } :=
    .single (.moved s s.link s.rqh _ Counters.Bounded.timeout)
  unfold State.timeOut
  dsimp only
  split
  · exact counted.trans (.trans (.single (.raised _ .linkFault _)) (State.endGrant_links _))
  · exact counted.trans (State.endGrant_links _)

theorem State.freeFrame_links (a : Option (BitVec 4)) : LinkChain s (s.freeFrame a) := by
  have counts (u : State) : LinkChain u u.countFreeFrame := by
    unfold State.countFreeFrame
    split
    · split
      · exact .of_link _
      · exact .of_link _
    · exact .refl
  have judges (a : BitVec 4) : LinkChain s (s.judgeContention a) := by
    unfold State.judgeContention
    split_ifs
    · exact .single (.moved s s.link s.rqh _ Counters.Bounded.unknownContention)
    · exact .single (.moved s s.link s.rqh _ Counters.Bounded.fairnessDiscard)
    · exact .single (.moved s _ _ s.counters)
  unfold State.freeFrame
  split
  · exact (judges _).trans (counts _)
  · exact counts s

theorem State.countBreak_links (b : Bool) : LinkChain s (s.countBreak b) := by
  unfold State.countBreak
  split_ifs
  · exact .single (.moved s _ s.rqh _ Counters.Bounded.linkBreak)
  · exact .of_link _
  · exact .refl
  · exact .of_link _

theorem State.breakFrame_links : LinkChain s s.breakFrame := by
  unfold State.breakFrame
  split_ifs
  · exact s.timeOut_links
  · exact s.endGrant_links
  · exact .of_link _
  · exact .refl

theorem State.waitFrame_links : LinkChain s s.waitFrame := by
  unfold State.waitFrame
  split
  · exact .of_link _
  · exact s.timeOut_links

theorem State.trailerFrame_links (ends : Bool) : LinkChain s (s.trailerFrame ends) := by
  unfold State.trailerFrame
  split_ifs
  · exact s.endGrant_links
  · exact .of_link _
  · exact s.completeAnswer_links

theorem State.answerFrame_links (ua : Bool) : LinkChain s (s.answerFrame ua) := by
  unfold State.answerFrame
  split
  · exact .of_link _
  · exact s.waitFrame_links
  · exact s.waitFrame_links
  · split
    · exact .of_link _
    · exact .of_link _

/-- A request refused leaves the state; one that is not is its own rule (R184). -/
theorem execute_frame (k : Kind) (body : List Byte) : (execute k s body).1 = s ∨ ∃ p, (s.station p).role ≠ none ∧ (execute k s body).1 = (handle k s p body).1 := by
  unfold execute
  split
  · exact .inl rfl
  next p _ =>
    split
    · exact .inl rfl
    next r role =>
      split
      · exact .inr ⟨p, by rw [role]; nofun, rfl⟩
      · exact .inl rfl

theorem State.messageEnd_frame : s.Frame s.messageEnd := by
  have starts (u : State) (b : Byte) (r : Reply) : LinkChain u (u.startAnswer b r) := .of_link _
  unfold State.messageEnd
  split
  · exact .inl (.trans (.single (.moved s s.link s.rqh _ fun h => h.afterEnvelope _)) (starts _ _ _))
  next k body _ =>
    unfold State.serve
    rcases execute_frame s k body with same | ⟨p, asks, same⟩
    · dsimp only; rw [same]; exact .inl (starts _ _ _)
    · dsimp only; rw [same]; exact .inr ⟨s, k, p, body, .refl, asks, starts _ _ _⟩

theorem State.takeByte_links (b : Byte) : LinkChain s (s.takeByte b) := by
  unfold State.takeByte
  split
  · exact .of_link _
  · exact .of_link _

theorem State.requestFrame_frame (uv : Bool) (b : Byte) : s.Frame (s.requestFrame uv b) := by
  unfold State.requestFrame
  split
  · exact .inl ((s.takeByte_links b).trans (LinkChain.of_link _))
  · exact .inl ((s.takeByte_links b).trans (LinkChain.of_link _))
  · exact .inl s.waitFrame_links
  · exact .inl s.waitFrame_links
  · exact .inl (.of_link _)
  · dsimp only
    split
    · exact .inl (.of_link _)
    · exact .before (.of_link _) (State.messageEnd_frame _)

theorem State.frameEnd_frame (up : BitVec 32) : s.Frame (s.frameEnd up) := by
  unfold State.frameEnd
  dsimp only
  refine .nextFrame (.before (s.countBreak_links (isBreakFrame up)) ?_)
  split
  · exact .inl (State.freeFrame_links _ _)
  · split
    · exact .inl (State.breakFrame_links _)
    · exact State.requestFrame_frame _ _ _
  · split
    · exact .inl (State.breakFrame_links _)
    · exact .inl (State.answerFrame_links _ _)
  · exact .inl (State.trailerFrame_links _ _)

theorem State.request_frame (k : Kind) (body : List Byte) : s.Frame (s.request k body) := by
  unfold State.request
  split
  · exact .nextFrame (.before (.of_link _) (State.messageEnd_frame _))
  · exact .inl .refl

theorem frameRow_frame (b : Bool) (f : State → State) (links : LinkChain s (f s)) : s.Frame (frameRow b f s) := by
  unfold frameRow
  split
  · exact .nextFrame (.inl links)
  · exact .inl .refl

theorem quietRow_frame (b : Bool) (f : State → State) (links : ∀ u : State, LinkChain u (f u)) : s.Frame (quietRow b f s) :=
  frameRow_frame s b _ (.trans (LinkChain.of_link _) (links _))

end

/-! ## What a step can do -/

/-- One step, but for the reset: the clock counts, an event of the clock or of the unit is taken, or a frame ends. -/
inductive Stepped (s : State) : State → Prop
  | stays : Stepped s s
  | ticks (k : Nat) (fits : k ≤ 1966079) (set : s.nck.clockSet = true) : Stepped s { s with nck.divider := k }
  | minute : Stepped s s.minuteEvent
  | windowStart (here : s.nck.clock = s.windowStartOf s.nck.clock.day) (fit : s.eligible s.nck.clock.day = true) :
      Stepped s (s.reachWindowStart s.nck.clock.day)
  | windowEnd (n : Nat) (night : s.nck.nightDay = some n) (here : s.nck.clock = s.windowEndOf n) : Stepped s s.reachWindowEnd
  | graceExpiry (n : Nat) (night : s.nck.nightDay = some n) (here : s.nck.clock = s.graceExpiryOf n) : Stepped s s.reachGraceExpiry
  | holdExpiry (d : District) : Stepped s (State.expireIfReached s.nck.clock s d)
  | choice : Stepped s s.choose
  | completion : Stepped s s.completeEvaluation
  | frame (t : State) (ends : s.Frame t) : Stepped s t

theorem State.atBoundary_iff (s : State) (time : State → Nat → ClockTime) :
    s.atBoundary time = true ↔ ∃ n, s.nck.nightDay = some n ∧ s.nck.clock = time s n := by
  unfold State.atBoundary
  cases s.nck.nightDay <;> simp

theorem taken_stepped {s t : State} {f : State → State} (moves : Stepped s (f s)) (row : taken f s = .next t) : Stepped s t := by
  obtain rfl : (if s.running then f s else s) = t := Host.Outcome.next.inj row
  split
  · exact moves
  · exact .stays

theorem State.crystalPeriod_stepped (s : State) : Stepped s s.crystalPeriod := by
  unfold State.crystalPeriod
  split
  next set =>
    rw [Bool.and_eq_true] at set
    split
    · exact .ticks _ (by omega) set.2
    · exact .minute
  · exact .stays

/-- The state after a reset, but for what RSTN holds and what waits (R176). -/
def State.IsReset (t : State) : Prop :=
  ∃ strap running dn q n,
    t = { State.afterReset strap with running := running, link.dn := dn, pending := q, freeCount := n }

/-- A row is a reset, or what a step can do. -/
theorem exec_stepped {s t : State} (c : Instr) (row : exec c s = .next t) :
    Stepped s t ∨ t.IsReset := by
  cases request : c.requestKind with
  | some k =>
    obtain ⟨body, with_⟩ := requestBody_of_requestKind request
    rw [exec_of_request request with_] at row
    exact .inl (taken_stepped (f := fun u => u.request k body) (.frame _ (s.request_frame k body)) row)
  | none =>
    cases c with
    | powerOnReset strap => obtain rfl := Host.Outcome.next.inj row; exact .inr ⟨strap, _, _, _, _, rfl⟩
    | rstnHeldLow => obtain rfl := Host.Outcome.next.inj row; exact .inr ⟨0#4, _, _, _, _, rfl⟩
    | minuteEvent => exact .inl (taken_stepped (f := State.minuteEvent) .minute row)
    | windowStart =>
      refine .inl (taken_stepped (f := fun s : State =>
        if s.nck.clock = s.windowStartOf s.nck.clock.day ∧ s.eligible s.nck.clock.day = true then s.reachWindowStart s.nck.clock.day else s) ?_ row)
      split
      next at_start => exact .windowStart at_start.1 at_start.2
      · exact .stays
    | windowEnd =>
      refine .inl (taken_stepped (f := fun s : State => if s.atBoundary State.windowEndOf then s.reachWindowEnd else s) ?_ row)
      split
      next at_end =>
        obtain ⟨n, night, here⟩ := (s.atBoundary_iff _).1 at_end
        exact .windowEnd n night here
      · exact .stays
    | graceExpiry =>
      refine .inl (taken_stepped (f := fun s : State => if s.atBoundary State.graceExpiryOf then s.reachGraceExpiry else s) ?_ row)
      split
      next at_end =>
        obtain ⟨n, night, here⟩ := (s.atBoundary_iff _).1 at_end
        exact .graceExpiry n night here
      · exact .stays
    | holdExpiry d => exact .inl (taken_stepped (f := fun s : State => State.expireIfReached s.nck.clock s d) (.holdExpiry d) row)
    | choice => exact .inl (taken_stepped (f := State.choose) .choice row)
    | evaluationCompletion => exact .inl (taken_stepped (f := State.completeEvaluation) .completion row)
    | contention a =>
      exact .inl (taken_stepped (f := fun s : State => quietRow (decide (s.link.phase = .free)) (fun s => s.freeFrame (some a)) s)
        (.frame _ (quietRow_frame s _ _ fun u => u.freeFrame_links (some a))) row)
    | fairnessHoldCleared =>
      exact .inl (taken_stepped (f := fun s : State => quietRow (decide (s.link.phase = .free)) (fun s => { s with link.fairness := none }) s)
        (.frame _ (quietRow_frame s _ _ fun u => .of_link _)) row)
    | envelopeCheckRefusal m =>
      refine .inl (taken_stepped (f := fun s : State => match openEnvelope (m.take 64) (decide (64 < m.length)) with
        | .refused st => frameRow (decide (s.link.phase = .request) && !m.isEmpty) (fun s => (s.received m).refuseEnvelope st) s
        | .request _ _ => s) ?_ row)
      split
      · refine .frame _ (frameRow_frame s _ _ (.trans (LinkChain.of_link _) (.trans (.single (.moved _ (s.received m).link s.rqh _ fun h => h.afterEnvelope _)) (LinkChain.of_link _))))
      · exact .stays
    | answerCompletion =>
      exact .inl (taken_stepped (f := fun s : State => quietRow (decide (s.link.phase = .trailer)) State.completeAnswer s)
        (.frame _ (quietRow_frame s _ _ State.completeAnswer_links)) row)
    | handshakeTimeout =>
      exact .inl (taken_stepped (f := fun s : State => quietRow s.link.timedStep State.timeOut s)
        (.frame _ (quietRow_frame s _ _ State.timeOut_links)) row)
    | breakEndsGrant =>
      exact .inl (taken_stepped (f := fun s : State => frameRow (decide (s.link.phase ≠ .free))
          (fun s => State.breakGrant { s with link.breakRun := 2 }) s)
        (.frame _ (frameRow_frame s _ _ (.trans (LinkChain.of_link _) (State.endGrant_links _)))) row)
    | linkBreak =>
      exact .inl (taken_stepped (f := fun s : State => frameRow (decide (s.link.phase = .free) && decide (s.link.breakRun < 16))
          (fun s => { s with link.breakRun := 16, link.fairness := none, counters.linkBreaks := bump 65535 s.counters.linkBreaks }) s)
        (.frame _ (frameRow_frame s _ _ (.single (.moved s _ s.rqh _ Counters.Bounded.linkBreak)))) row)
    | frameEnd up => exact .inl (taken_stepped (f := fun s : State => s.frameEnd up) (.frame _ (s.frameEnd_frame up)) row)
    | _ => exact nomatch request

/-- A step with what waits set aside: a reset, or what a step can do. -/
theorem step_stepped {s t : State} (moves : step s = .next t) :
    ∃ q, Stepped { s with pending := q } t ∨ t.IsReset := by
  unfold step at moves
  split at moves
  · obtain rfl := Host.Outcome.next.inj moves
    exact ⟨s.pending, .inl s.crystalPeriod_stepped⟩
  next c rest _ => exact ⟨rest, exec_stepped c moves⟩

/-! ## Every step as a chain -/

/-- The clock's laws speak of the Night Clock alone. -/
theorem clockLaw_congr {s u : State} (nck : u.nck = s.nck) : ClockLaw u ↔ ClockLaw s := by
  have own : ClockLaw { s with nck := u.nck } ↔ ClockLaw s := by rw [nck]
  exact own

theorem handle_moves (s : State) (p : Position) (body : List Byte) (k : Kind) (asks : (s.station p).role ≠ none) (clock : ClockLaw s) :
    Moves s (handle k s p body).1 := by
  by_cases station : k = .setStation
  · subst station
    rcases setStation_writes s p body with same | ⟨q, st, other, fits, written⟩
    · exact (Chain.of_eq same).moves
    · change Moves s (setStation s p body).1
      rw [written]
      exact .single (.entry s q st other fits)
  · exact (handle_chain s p body station asks clock).moves

theorem State.Frame.moves {s t : State} (clock : ClockLaw s) (frame : s.Frame t) : Moves s t := by
  rcases frame with quiet | ⟨u, k, p, body, first, asks, rest⟩
  · exact quiet.chain.moves
  · exact first.chain.moves.trans ((handle_moves u p body k asks ((clockLaw_congr first.nck).2 clock)).trans rest.chain.moves)

theorem Stepped.moves {s t : State} (clock : ClockLaw s) (moves : Stepped s t) : Moves s t := by
  obtain ⟨-, -, -, -, -, -, -, -, -, -, night, -⟩ := id clock
  cases moves with
  | stays => exact .refl
  | ticks k _ _ => exact (Chain.of_same (s := s) (t := { s with nck.divider := k }) rfl).moves
  | minute => exact (State.minuteEvent_chain night).moves
  | windowStart here fit => exact (s.reachWindowStart_chain _ (State.mayOpen_of_eligible fit)).moves
  | windowEnd _ _ _ => exact s.reachWindowEnd_chain.moves
  | graceExpiry _ _ _ => exact s.reachGraceExpiry_chain.moves
  | holdExpiry d => exact (s.expireIfReached_chain _ d).moves
  | choice => exact s.choose_chain.moves
  | completion => exact s.completeEvaluation_chain.moves
  | frame _ ends => exact ends.moves clock

/-- A law that holds after reset and that no move breaks is kept by every step. -/
theorem kept_of_step {P : State → Prop} (reset : ∀ strap, P (State.afterReset strap)) (each : ∀ u v, Move u v → P u → P v)
    {s t : State} (moves : step s = .next t) (clock : ClockLaw s) (law : P s) : P t := by
  obtain ⟨q, stepped | ⟨strap, running, dn, r, n, rfl⟩⟩ := step_stepped moves
  · have moved : Moves s t := (Chain.of_same (s := s) (t := { s with pending := q }) rfl).moves.trans (stepped.moves clock)
    clear moves stepped
    induction moved with
    | refl => exact law
    | tail _ move ih => exact each _ _ move ih
  · exact each _ _ (.change (.nothing (s := State.afterReset strap) rfl)) (reset strap)

end Sys2Proof.Machine
end

section
/-!
PROOF. Queue, flight and night states stay in order, and results stay dated, through every elementary change (R64, R76, R79, R82, R83, R85,
R87, R88).
-/

namespace Sys2Proof.Machine

/-! ## What the other changes leave alone -/

/-- A change of the stores moves the stores only. -/
theorem StoreChange.frame {s t : State} (change : StoreChange s t) :
    t = { s with slots := t.slots, strays := t.strays, pressure := t.pressure, baselines := t.baselines } := by
  cases change <;> rfl

/-- What a change of parameters, window, watches or marks leaves as it was. -/
structure State.SameUnits (s t : State) : Prop where
  phase : t.nck.phase = s.nck.phase
  nightDay : t.nck.nightDay = s.nck.nightDay
  queue : t.queue = s.queue
  flight : t.flight = s.flight
  due : t.choiceDue = s.choiceDue
  district : ∀ d, t.district d = { s.district d with params := (t.district d).params }
  slots : t.slots = s.slots
  strays : t.strays = s.strays
  pressure : t.pressure = s.pressure
  baselines : t.baselines = s.baselines

theorem WatchChange.same {s t : State} (change : WatchChange s t) : s.SameUnits t := by
  cases change with
  | marked p f _ => exact ⟨rfl, rfl, rfl, rfl, rfl, fun _ => rfl, rfl, rfl, rfl, rfl⟩
  | delivered p d => rw [State.endCleared_frame]; exact ⟨rfl, rfl, rfl, rfl, rfl, fun _ => rfl, rfl, rfl, rfl, rfl⟩
  | rejudged d => exact ⟨rfl, rfl, rfl, rfl, rfl, fun _ => rfl, rfl, rfl, rfl, rfl⟩
  | acknowledged d _ =>
    unfold State.acknowledge
    split
    · exact ⟨rfl, rfl, rfl, rfl, rfl, fun _ => rfl, rfl, rfl, rfl, rfl⟩
    · rw [State.changeAlert_frame]; exact ⟨rfl, rfl, rfl, rfl, rfl, fun _ => rfl, rfl, rfl, rfl, rfl⟩
  | repaired d _ =>
    unfold State.markRepaired
    rw [State.changeAlert_frame]
    exact ⟨rfl, rfl, rfl, rfl, rfl, fun _ => rfl, rfl, rfl, rfl, rfl⟩
  | configured d ps _ =>
    refine ⟨rfl, rfl, rfl, rfl, rfl, fun e => ?_, rfl, rfl, rfl, rfl⟩
    have district : _ = _ := s.district_modDistrict d e (fun r => { r with params := ps })
    refine district.trans ?_
    split
    next same => subst same; exact congrArg (fun p => { s.district e with params := p }) (congrArg DistrictRecord.params
        (district.trans (if_pos rfl))).symm
    next other => exact congrArg (fun p => { s.district e with params := p }) (congrArg DistrictRecord.params (district.trans (if_neg other))).symm
  | resized a l g _ => exact ⟨rfl, rfl, rfl, rfl, rfl, fun _ => rfl, rfl, rfl, rfl, rfl⟩

/-- What the laws of the night read is the same in both states. -/
structure State.SameNight (s t : State) : Prop where
  phase : t.nck.phase = s.nck.phase
  nightDay : t.nck.nightDay = s.nck.nightDay
  queue : t.queue = s.queue
  flight : t.flight = s.flight
  due : t.choiceDue = s.choiceDue
  district : ∀ d, t.district d = { s.district d with params := (t.district d).params }

theorem State.SameUnits.sameNight {s t : State} (h : s.SameUnits t) : s.SameNight t :=
  ⟨h.phase, h.nightDay, h.queue, h.flight, h.due, h.district⟩

theorem StoreChange.sameNight {s t : State} (change : StoreChange s t) : s.SameNight t := by
  rw [change.frame]
  exact ⟨rfl, rfl, rfl, rfl, rfl, fun _ => rfl⟩

theorem State.sameNight_of_bare {s t : State} (same : s.bare = t.bare) : s.SameNight t := by
  have district (d : District) := congrArg (fun u : State => u.district d) same.symm
  have phase := congrArg (fun u : State => u.nck.phase) same.symm
  have day := congrArg (fun u : State => u.nck.nightDay) same.symm
  have queue := congrArg State.queue same.symm
  have flight := congrArg State.flight same.symm
  have due := congrArg State.choiceDue same.symm
  exact ⟨phase, day, queue, flight, due, fun d => (district d).trans (congrArg (fun p => { s.district d with params := p })
    (congrArg DistrictRecord.params (district d).symm))⟩

/-! ## The queue in order -/

/-- `QueueLaw`, its parts named. -/
structure State.InOrder (s : State) : Prop where
  nodup : (s.queue.map (·.district)).Nodup
  queued : ∀ d : District, (s.district d).nightState = .queued ↔ d ∈ s.queue.map (·.district)
  evaluating : ∀ d : District, (s.district d).nightState = .evaluating ↔ s.flight.map (·.district) = some d
  unheld : ∀ f, s.flight = some f → (s.district f.district).hold = none
  due : s.choiceDue = true → s.flight = none
  out : s.nck.phase ≠ .settling → s.nck.phase ≠ .closing → s.queue = [] ∧ s.flight = none
  opened : s.nck.phase ≠ .collecting → s.nck.phase ≠ .settling → ∀ d : District, (s.district d).nightState ≠ .opened
  service : ∀ d : District, (s.district d).inService = false → (s.district d).nightState = .idle

theorem queueLaw_iff (s : State) : QueueLaw s ↔ s.InOrder := by
  have unheld : s.flight.all (fun f => (s.district f.district).hold.isNone) = true ↔
      ∀ f, s.flight = some f → (s.district f.district).hold = none := by
    simp [Option.all_eq_true, Option.isNone_iff_eq_none]
  constructor
  · rintro ⟨h1, h2, h3, h4, h5, h6, h7, h8⟩
    exact ⟨h1, h2, h3, unheld.1 h4, h5, h6, h7, h8⟩
  · rintro ⟨h1, h2, h3, h4, h5, h6, h7, h8⟩
    exact ⟨h1, h2, h3, unheld.2 h4, h5, h6, h7, h8⟩

namespace State.InOrder

section
variable {s t : State} (h : s.InOrder)
include h

theorem same (night : s.SameNight t) : t.InOrder := by
  obtain ⟨phase, -, queue, flight, due, district⟩ := night
  have state (d : District) : (t.district d).nightState = (s.district d).nightState := by rw [district]
  have hold (d : District) : (t.district d).hold = (s.district d).hold := by rw [district]
  have service (d : District) : (t.district d).inService = (s.district d).inService := by rw [district]
  constructor
  case nodup => rw [queue]; exact h.nodup
  case queued => intro d; rw [state, queue]; exact h.queued d
  case evaluating => intro d; rw [state, flight]; exact h.evaluating d
  case unheld => intro f flown; rw [hold]; exact h.unheld f (flight.symm.trans flown)
  case due => rw [due, flight]; exact h.due
  case out => rw [phase, queue, flight]; exact h.out
  case opened => intro c c' d; rw [state]; exact h.opened (phase ▸ c) (phase ▸ c') d
  case service => intro d; rw [service, state]; exact h.service d

/-- Outside a night nothing is queued and nothing in flight. -/
theorem empty (closed : ∀ d : District, ¬ s.Unclosed d) : s.queue = [] ∧ s.flight = none := by
  constructor
  · refine List.eq_nil_iff_forall_not_mem.2 fun x mem => closed x.district (.inr (.inl ?_))
    exact (h.queued _).2 (List.mem_map_of_mem mem)
  · refine Option.eq_none_iff_forall_ne_some.2 fun f flown => closed f.district (.inr (.inr ?_))
    exact (h.evaluating _).2 (by rw [flown]; rfl)

theorem prompted : s.prompt.InOrder := by
  rw [State.prompt_eq]
  refine { h with due := fun due => ?_ }
  rcases Bool.or_eq_true_iff.1 due with already | idle
  · exact h.due already
  · exact Option.isNone_iff_eq_none.1 idle

theorem chose : State.InOrder { s with choiceDue := false } := { h with due := fun due => Bool.noConfusion due }

theorem joined {d : District} {why : QueueReason} (open_ : (s.district d).nightState = .opened) (settling : s.nck.phase = .settling) :
    (s.enqueue d why).InOrder := by
  have district (e : District) := s.district_enqueue d e why
  have new : d ∉ s.queue.map (·.district) := fun mem => by
    rw [(h.queued d).2 mem] at open_; exact nomatch open_
  have grounded : s.flight.map (·.district) ≠ some d := fun flown => by
    rw [(h.evaluating d).2 flown] at open_; exact nomatch open_
  have queue : (s.enqueue d why).queue.map (·.district) = s.queue.map (·.district) ++ [d] := by rw [State.enqueue_eq]; simp
  have flight : (s.enqueue d why).flight = s.flight := by rw [State.enqueue_eq]
  have phase : (s.enqueue d why).nck.phase = .settling := (s.enqueue_phase d why).trans settling
  constructor
  case nodup => rw [queue]; exact List.nodup_append'.2 ⟨h.nodup, List.nodup_singleton d, List.disjoint_singleton.2 new⟩
  case queued =>
    intro e
    rw [district, queue, List.mem_append, List.mem_singleton]
    split
    next same => exact iff_of_true rfl (.inr same)
    next other => rw [h.queued e]; simp [other]
  case evaluating =>
    intro e
    rw [district, flight]
    split
    next same => subst same; exact iff_of_false nofun grounded
    · exact h.evaluating e
  case unheld =>
    intro f flown
    rw [flight] at flown
    have other : f.district ≠ d := fun same => grounded (by rw [flown]; exact congrArg some same)
    rw [district, if_neg other]
    exact h.unheld f flown
  case due =>
    rw [flight, State.enqueue_eq]
    intro due
    rcases Bool.or_eq_true_iff.1 due with already | idle
    · exact h.due already
    · exact Option.isNone_iff_eq_none.1 idle
  case out => exact fun c => absurd phase c
  case opened => exact fun _ c => absurd phase c
  case service =>
    intro e out
    rw [district] at out ⊢
    split at out
    · have := h.service d out
      rw [open_] at this; exact nomatch this
    next other => rw [if_neg other]; exact h.service e out

theorem windowEnded (collecting : s.nck.phase = .collecting) : State.InOrder { s with nck.phase := .settling } := by
  obtain ⟨queue, flight⟩ := h.out (by rw [collecting]; decide) (by rw [collecting]; decide)
  exact { h with out := fun _ _ => ⟨queue, flight⟩, opened := fun _ c => absurd rfl c }

theorem graceEnded (none_open : ∀ d : District, (s.district d).nightState ≠ .opened) : State.InOrder { s with nck.phase := .closing } :=
  { h with out := fun _ c => absurd rfl c, opened := fun _ _ => none_open }

theorem daytime (past : s.nck.phase = .stopped ∨ ∀ d : District, ¬ s.Unclosed d) : State.InOrder { s with nck.phase := .daytime } := by
  rcases past with stopped | closed
  · exact { h with
      out := fun _ _ => h.out (by rw [stopped]; decide) (by rw [stopped]; decide)
      opened := fun _ _ => h.opened (by rw [stopped]; decide) (by rw [stopped]; decide) }
  · exact { h with out := fun _ _ => h.empty closed, opened := fun _ _ d open_ => closed d (.inl open_) }

theorem unheld_some {ds : Table 32 DistrictRecord} (ends : ∀ d : District, ds.get d = s.district d ∨ ds.get d = { s.district d with hold := none }) :
    State.InOrder { s with districts := ds } := by
  have state (d : District) : (ds.get d).nightState = (s.district d).nightState := by rcases ends d with same | gone <;> simp [*]
  have service (d : District) : (ds.get d).inService = (s.district d).inService := by rcases ends d with same | gone <;> simp [*]
  refine { h with queued := fun d => ?_, evaluating := fun d => ?_, unheld := fun f flown => ?_, opened := fun c c' d => ?_, service := fun d out => ?_ }
  · exact (iff_of_eq (congrArg (· = _) (state d))).trans (h.queued d)
  · exact (iff_of_eq (congrArg (· = _) (state d))).trans (h.evaluating d)
  · rcases ends f.district with same | gone
    · exact (congrArg DistrictRecord.hold same).trans (h.unheld f flown)
    · exact congrArg DistrictRecord.hold gone
  · exact fun open_ => h.opened c c' d ((state d).symm.trans open_)
  · exact (state d).trans (h.service d ((service d).symm.trans out))

theorem held {d : District} {x : Hold} (free : (s.district d).nightState ≠ .evaluating) :
    (s.modDistrict d (fun r => { r with hold := some x })).InOrder := by
  have district (e : District) := s.district_modDistrict d e (fun r => { r with hold := some x })
  have state (e : District) : ((s.modDistrict d (fun r => { r with hold := some x })).district e).nightState = (s.district e).nightState := by
    rw [district]; split <;> simp [*]
  have service (e : District) : ((s.modDistrict d (fun r => { r with hold := some x })).district e).inService = (s.district e).inService := by
    rw [district]; split <;> simp [*]
  refine { h with queued := fun e => ?_, evaluating := fun e => ?_, unheld := fun f flown => ?_, opened := fun c c' e => ?_, service := fun e out => ?_ }
  · rw [state]; exact h.queued e
  · rw [state]; exact h.evaluating e
  · have other : f.district ≠ d := fun same => free ((h.evaluating d).2 (by rw [show s.flight = some f from flown]; exact congrArg some same))
    rw [district, if_neg other]
    exact h.unheld f flown
  · rw [state]; exact h.opened c c' e
  · rw [state]; exact h.service e ((service e).symm.trans out)

theorem began {e : QueueEntry} (chosen : s.chosen = some e) (idle : s.flight = none) (due : s.choiceDue = false) : (s.beginEvaluation e).InOrder := by
  have mem : e ∈ s.queue := List.mem_of_find?_eq_some chosen
  have free : (s.district e.district).hold = none := by
    have taken_ := List.find?_some chosen
    exact Option.isNone_iff_eq_none.1 taken_
  have inNight : s.nck.phase = .settling ∨ s.nck.phase = .closing := by
    by_contra out
    obtain ⟨settling, closing⟩ := not_or.1 out
    rw [(h.out settling closing).1] at mem
    exact List.not_mem_nil mem
  have wasQueued : (s.district e.district).nightState = .queued := (h.queued _).2 (List.mem_map_of_mem mem)
  have district (d : District) : (s.beginEvaluation e).district d =
      if d = e.district then { s.district e.district with nightState := .evaluating } else s.district d :=
    s.district_modDistrict e.district d _
  have left (d : District) : d ∈ (s.beginEvaluation e).queue.map (·.district) ↔ d ∈ s.queue.map (·.district) ∧ d ≠ e.district := by
    simp only [State.beginEvaluation, List.mem_map, List.mem_filter, decide_eq_true_eq]
    constructor
    · rintro ⟨x, ⟨there, other⟩, rfl⟩; exact ⟨⟨x, there, rfl⟩, other⟩
    · rintro ⟨⟨x, there, rfl⟩, other⟩; exact ⟨x, ⟨there, other⟩, rfl⟩
  constructor
  case nodup => exact h.nodup.sublist (List.filter_sublist.map _)
  case queued =>
    intro d
    rw [district, left]
    split
    next same => exact iff_of_false nofun fun both => both.2 same
    next other => rw [h.queued d]; simp [other]
  case evaluating =>
    intro d
    rw [district]
    change _ ↔ some e.district = some d
    split
    next same => exact iff_of_true rfl (congrArg some same.symm)
    next other =>
      refine iff_of_false (fun evaluating => ?_) fun same => other (Option.some.inj same).symm
      have flown := (h.evaluating d).1 evaluating
      rw [idle] at flown; exact nomatch flown
  case unheld =>
    intro f flown
    obtain rfl := Option.some.inj flown
    rw [district, if_pos rfl]; exact free
  case due => exact fun made => Bool.noConfusion (due.symm.trans made)
  case out => exact fun settling closing => absurd inNight (not_or.2 ⟨settling, closing⟩)
  case opened =>
    intro c c' d open_
    rw [district] at open_
    split at open_
    · exact nomatch open_
    · exact h.opened c c' d open_
  case service =>
    intro d out
    rw [district] at out
    split at out
    · have := h.service e.district out
      rw [wasQueued] at this; exact nomatch this
    next other => rw [district, if_neg other]; exact h.service d out

theorem completed {f : Flight} (flown : s.flight = some f) (p : Option Nat) (r : Result) : (s.settleResult f.district p r).InOrder := by
  have district (e : District) := s.settleResult_district f.district p r e
  have frame := s.settleResult_frame f.district p r
  have was : (s.district f.district).nightState = .evaluating := (h.evaluating _).2 (by rw [flown]; rfl)
  generalize s.settleResult f.district p r = t at district frame ⊢
  have queue : t.queue = s.queue := (congrArg State.queue frame).trans rfl
  have flight : t.flight = none := (congrArg State.flight frame).trans rfl
  have phase : t.nck.phase = s.nck.phase := (congrArg (fun u : State => u.nck.phase) frame).trans rfl
  constructor
  case nodup => rw [queue]; exact h.nodup
  case queued =>
    intro e
    rw [district, queue]
    split
    next same =>
      subst same
      exact iff_of_false nofun fun mem => by
        rw [(h.queued _).2 mem] at was; exact nomatch was
    · exact h.queued e
  case evaluating =>
    intro e
    rw [district, flight]
    split
    · exact iff_of_false nofun nofun
    next other =>
      refine iff_of_false (fun evaluating => other ?_) nofun
      have same := (h.evaluating e).1 evaluating
      rw [flown] at same
      exact (Option.some.inj same).symm
  case unheld => intro g flying; rw [flight] at flying; exact nomatch flying
  case due => exact fun _ => flight
  case out => rw [phase, queue]; exact fun settling closing => ⟨(h.out settling closing).1, flight⟩
  case opened =>
    intro c c' e open_
    rw [phase] at c c'
    rw [district] at open_
    split at open_
    · exact nomatch open_
    · exact h.opened c c' e open_
  case service =>
    intro e out
    rw [district] at out
    split at out
    · have := h.service f.district out
      rw [was] at this; exact nomatch this
    next other => rw [district, if_neg other]; exact h.service e out

theorem nightOpened {n : Nat} (out : s.nck.phase = .stopped ∨ s.nck.phase = .daytime ∨ (s.queue = [] ∧ s.flight = none)) :
    (s.openNight n).InOrder := by
  have empty : s.queue = [] ∧ s.flight = none := by
    rcases out with stopped | daytime | empty
    · exact h.out (by rw [stopped]; decide) (by rw [stopped]; decide)
    · exact h.out (by rw [daytime]; decide) (by rw [daytime]; decide)
    · exact empty
  have frame := s.openNight_eq n
  have districts : (s.openNight n).districts = (s.nightAssigned n).districts := by rw [frame]
  have district (d : District) : (s.openNight n).district d = (s.openingAct n d).record (s.district d) :=
    (congrArg (Table.get · d) districts).trans ((s.nightAssigned_acted n).district d)
  generalize s.nightAssigned n = v at frame
  generalize s.openNight n = t at district frame ⊢
  have queue : t.queue = [] := (congrArg State.queue frame).trans empty.1
  have flight : t.flight = none := (congrArg State.flight frame).trans empty.2
  have phase : t.nck.phase = .collecting := (congrArg (fun u : State => u.nck.phase) frame).trans rfl
  have state (d : District) : (t.district d).nightState =
      if (s.district d).inService = false then .idle else if s.NoMeters d then .skipped else .opened := by
    rw [district]; unfold State.openingAct; split_ifs <;> rfl
  have service (d : District) : (t.district d).inService = (s.district d).inService := by
    rw [district]; unfold State.openingAct; split_ifs <;> rfl
  constructor
  case nodup => rw [queue]; exact List.nodup_nil
  case queued => intro d; rw [state, queue]; split_ifs <;> exact iff_of_false nofun List.not_mem_nil
  case evaluating => intro d; rw [state, flight]; split_ifs <;> exact iff_of_false nofun nofun
  case unheld => intro f flown; rw [flight] at flown; exact nomatch flown
  case due => exact fun _ => flight
  case out => exact fun _ _ => ⟨queue, flight⟩
  case opened => exact fun c => absurd phase c
  case service => intro d out; rw [service] at out; rw [state, if_pos out]

theorem nightAbandoned (closing : s.nck.phase = .closing) : s.abandonNight.InOrder := by
  have frame := State.abandonNight_eq (s := s) rfl
  have districts : s.abandonNight.districts = (s.nightDropped (s.nck.nightDay.getD 0)).districts := by rw [frame]
  have district (d : District) : s.abandonNight.district d = (s.droppingAct (s.nck.nightDay.getD 0) d).record (s.district d) :=
    (congrArg (Table.get · d) districts).trans ((s.nightDropped_acted _).district d)
  have nck := s.abandonNight_nck
  generalize s.nightDropped (s.nck.nightDay.getD 0) = v at frame
  generalize s.abandonNight = t at district frame nck ⊢
  have queue : t.queue = [] := (congrArg State.queue frame).trans rfl
  have flight : t.flight = none := (congrArg State.flight frame).trans rfl
  have phase : t.nck.phase = .closing := by rw [nck]; exact closing
  have state (d : District) : (t.district d).nightState = if s.Dropped d then .skipped else (s.district d).nightState := by
    rw [district, State.droppingAct_record]
  have service (d : District) : (t.district d).inService = (s.district d).inService := by rw [district, State.droppingAct_record]
  constructor
  case nodup => rw [queue]; exact List.nodup_nil
  case queued =>
    intro d
    rw [state, queue]
    split
    · exact iff_of_false nofun List.not_mem_nil
    next kept => exact iff_of_false (fun q => kept (.inr (.inl q))) List.not_mem_nil
  case evaluating =>
    intro d
    rw [state, flight]
    split
    · exact iff_of_false nofun nofun
    next kept => exact iff_of_false (fun e => kept (.inr (.inr ((h.evaluating d).1 e)))) nofun
  case unheld => intro f flown; rw [flight] at flown; exact nomatch flown
  case due => exact fun _ => flight
  case out => exact fun _ c => absurd phase c
  case opened =>
    intro _ _ d
    rw [state]
    split
    · nofun
    next kept => exact fun o => kept (.inl o)
  case service =>
    intro d out
    rw [service] at out
    have idle := h.service d out
    rw [state, if_neg, idle]
    rintro (o | q | flown)
    · rw [idle] at o; exact nomatch o
    · rw [idle] at q; exact nomatch q
    · rw [(h.evaluating d).2 flown] at idle; exact nomatch idle

omit h in
theorem restarted : s.restart.InOrder := by
  have district (d : District) := s.restart_district d
  have frame := s.restart_eq
  generalize s.restart = t at district frame ⊢
  have queue : t.queue = [] := (congrArg State.queue frame).trans rfl
  have flight : t.flight = none := (congrArg State.flight frame).trans rfl
  constructor
  case nodup => rw [queue]; exact List.nodup_nil
  case queued => intro d; rw [district, queue]; exact iff_of_false nofun List.not_mem_nil
  case evaluating => intro d; rw [district, flight]; exact iff_of_false nofun nofun
  case unheld => intro f flown; rw [flight] at flown; exact nomatch flown
  case due => exact fun _ => flight
  case out => exact fun _ _ => ⟨queue, flight⟩
  case opened => intro _ _ d; rw [district]; nofun
  case service => intro d _; rw [district]

theorem outOfService {d : District} (free : (s.district d).nightState ≠ .evaluating) :
    State.InOrder (((({ s with queue := s.queue.filter (fun e => decide (e.district ≠ d)) } : State).modDistrict d
        (fun r => { r with inService := false, nightState := .idle })).modWatch d
        (fun w => { w with state := .out, excess := 0, gap := 0 })).changeAlert d .none) := by
  rw [State.changeAlert_frame]
  have district (e : District) : (s.modDistrict d (fun r => { r with inService := false, nightState := .idle })).district e =
    if e = d then { s.district d with inService := false, nightState := .idle } else s.district e := s.district_modDistrict d e _
  have grounded : s.flight.map (·.district) ≠ some d := fun flown => free ((h.evaluating d).2 flown)
  have left (e : District) :
      e ∈ (s.queue.filter (fun e => decide (e.district ≠ d))).map (·.district) ↔ e ∈ s.queue.map (·.district) ∧ e ≠ d := by
    simp only [List.mem_map, List.mem_filter, decide_eq_true_eq]
    constructor
    · rintro ⟨x, ⟨there, other⟩, rfl⟩; exact ⟨⟨x, there, rfl⟩, other⟩
    · rintro ⟨⟨x, there, rfl⟩, other⟩; exact ⟨x, ⟨there, other⟩, rfl⟩
  have state (e : District) : ((s.modDistrict d (fun r => { r with inService := false, nightState := .idle })).district e).nightState =
      if e = d then .idle else (s.district e).nightState := by rw [district]; split <;> rfl
  constructor
  case nodup => exact h.nodup.sublist (List.filter_sublist.map _)
  case queued =>
    intro e
    refine Iff.trans (iff_of_eq (congrArg (· = _) (state e))) (Iff.trans ?_ (left e).symm)
    split
    next same => exact iff_of_false nofun fun both => both.2 same
    next other => rw [h.queued e]; simp [other]
  case evaluating =>
    intro e
    refine Iff.trans (iff_of_eq (congrArg (· = _) (state e))) ?_
    split
    next same => subst same; exact iff_of_false nofun grounded
    · exact h.evaluating e
  case unheld =>
    intro f flown
    have other : f.district ≠ d := fun same => grounded (by rw [show s.flight = some f from flown]; exact congrArg some same)
    exact (congrArg DistrictRecord.hold ((district f.district).trans (if_neg other))).trans (h.unheld f flown)
  case due => exact h.due
  case out =>
    intro settling closing
    obtain ⟨queue, flight⟩ := h.out settling closing
    exact ⟨(congrArg (List.filter _) queue).trans rfl, flight⟩
  case opened =>
    intro c c' e open_
    have open_ := (state e).symm.trans open_
    split at open_
    · exact nomatch open_
    · exact h.opened c c' e open_
  case service =>
    intro e out
    refine (state e).trans ?_
    split
    · rfl
    next other => exact h.service e ((congrArg DistrictRecord.inService ((district e).trans (if_neg other))).symm.trans out)

theorem intoService {d : District} (out : (s.district d).inService = false) : (s.putIn d).InOrder := by
  have was := h.service d out
  have district (e : District) : (s.putIn d).district e =
      if e = d then { s.district d with inService := true, nightState := if s.nightInProgress then .skipped else .idle } else s.district e :=
    s.district_modDistrict d e _
  have state (e : District) (other : e ≠ d) : ((s.putIn d).district e).nightState = (s.district e).nightState := by rw [district, if_neg other]
  have own : ((s.putIn d).district d).nightState = .skipped ∨ ((s.putIn d).district d).nightState = .idle := by
    rw [district, if_pos rfl]
    dsimp only
    split <;> simp
  constructor
  case nodup => exact h.nodup
  case queued =>
    intro e
    by_cases same : e = d
    · subst same
      refine iff_of_false (fun q => ?_) fun mem => ?_
      · rcases own with x | x <;> rw [x] at q <;> exact nomatch q
      · rw [(h.queued e).2 mem] at was; exact nomatch was
    · rw [state e same]; exact h.queued e
  case evaluating =>
    intro e
    by_cases same : e = d
    · subst same
      refine iff_of_false (fun q => ?_) fun flown => ?_
      · rcases own with x | x <;> rw [x] at q <;> exact nomatch q
      · rw [(h.evaluating e).2 flown] at was; exact nomatch was
    · rw [state e same]; exact h.evaluating e
  case unheld =>
    intro f flown
    rw [district]
    split
    next same => exact same ▸ h.unheld f flown
    · exact h.unheld f flown
  case due => exact h.due
  case out => exact h.out
  case opened =>
    intro c c' e
    by_cases same : e = d
    · subst same
      rcases own with x | x <;> rw [x] <;> nofun
    · rw [state e same]; exact h.opened c c' e
  case service =>
    intro e unserved
    rw [district] at unserved ⊢
    split at unserved
    · exact nomatch unserved
    next other => rw [if_neg other]; exact h.service e unserved

theorem stationSet (p : Position) (st : Station) : (s.setStation p st).InOrder := by
  have unheld := h.unheld_some (ds := (s.setStation p st).districts) fun d => by
    have district := (s.setStation_district p st d).trans (s.entryWritten_district p st d)
    by_cases ends : s.EntryEnds p st ∧ (s.district d).hold.map (·.holder) = some p
    · exact .inr (district.trans (if_pos ends))
    · exact .inl (district.trans (if_neg ends))
  have frame := s.setStation_effect p st
  generalize (s.setStation p st) = t at frame unheld ⊢
  rw [frame]
  refine { unheld with due := fun due => ?_ }
  rcases Bool.or_eq_true_iff.1 due with already | made
  · exact h.due already
  · exact (of_decide_eq_true made).2.1

theorem change (moves : Change s t) : t.InOrder := by
  cases moves with
  | nothing same => exact h.same (State.sameNight_of_bare same)
  | store moves => exact h.same moves.sameNight
  | watch moves => exact h.same moves.same.sameNight
  | night moves =>
    cases moves with
    | prompted => exact h.prompted
    | chose => exact h.chose
    | joined d why open_ settling => exact h.joined open_ settling
    | windowEnded collecting => exact h.windowEnded collecting
    | graceEnded _ none_open => exact h.graceEnded none_open
    | daytime past => exact h.daytime past
    | unheld ds ends => exact h.unheld_some ends
    | held d x free _ _ => exact h.held free
    | began e chosen idle due => exact h.began chosen idle due
    | completed f flown => exact h.completed flown _ _
    | nightOpened n out _ _ => exact h.nightOpened out
    | nightAbandoned closing => exact h.nightAbandoned closing
    | restarted => exact restarted
    | outOfService d free => exact h.outOfService free
    | intoService d out => exact h.intoService out

/-- Every move keeps the queue in order. -/
theorem move (moves : Move s t) : t.InOrder := by
  cases moves with
  | change moves => exact h.change moves
  | entry p st _ _ => exact h.stationSet p st

end

end State.InOrder

end Sys2Proof.Machine
end

section
/-!
PROOF. Results stay dated through every elementary change (R79, R87).
-/

namespace Sys2Proof.Machine

/-- `ResultLaw`, its parts named, with a current night for every district still to be closed. -/
structure State.Dated (s : State) : Prop where
  published : ∀ d r, (s.district d).result = some r → ∃ n, s.nck.nightDay = some n ∧ r.nightDay ≤ n
  unclosed : ∀ d, s.Unclosed d → ∃ n, s.nck.nightDay = some n ∧ ∀ r, (s.district d).result = some r → r.nightDay < n
  flight : ∀ f, s.flight = some f → s.nck.nightDay = some f.snapshot.nightDay

/-- A district still to be closed stands in a night in progress. -/
theorem State.InOrder.night_of_unclosed {s : State} (h : s.InOrder) {d : District} (unclosed : s.Unclosed d) : s.nightInProgress = true := by
  have progress : s.nck.phase = .collecting ∨ s.nck.phase = .settling ∨ s.nck.phase = .closing := by
    by_contra out
    simp only [not_or] at out
    obtain ⟨collecting, settling, closing⟩ := out
    obtain ⟨queue, flight⟩ := h.out settling closing
    rcases unclosed with o | q | e
    · exact h.opened collecting settling d o
    · have mem := (h.queued d).1 q
      rw [queue] at mem; exact List.not_mem_nil mem
    · have flown := (h.evaluating d).1 e
      rw [flight] at flown; exact nomatch flown
  unfold State.nightInProgress
  rcases progress with c | c | c <;> rw [c]

theorem dated_of_law {s : State} (clock : ClockLaw s) (order : s.InOrder) (law : ResultLaw s) : s.Dated := by
  obtain ⟨-, -, -, -, -, -, -, -, -, -, night, -⟩ := clock
  obtain ⟨published, unclosed, flight⟩ := law
  refine ⟨fun d r result => ?_, fun d un => ?_, fun f flown => ?_⟩
  · have dated := published d
    rw [result] at dated
    rcases Option.eq_none_or_eq_some s.nck.nightDay with none_ | ⟨n, day⟩
    · rw [none_] at dated; exact nomatch dated
    · rw [day] at dated; exact ⟨n, day, of_decide_eq_true dated⟩
  · obtain ⟨n, day⟩ := Option.ne_none_iff_exists'.1 (night (order.night_of_unclosed un))
    refine ⟨n, day, fun r result => ?_⟩
    have dated := unclosed d un
    rw [result, day] at dated
    exact of_decide_eq_true dated
  · rw [flown] at flight
    exact of_decide_eq_true flight

theorem State.Dated.law {s : State} (h : s.Dated) : ResultLaw s := by
  refine ⟨fun d => ?_, fun d un => ?_, ?_⟩
  · rcases Option.eq_none_or_eq_some (s.district d).result with none_ | ⟨r, result⟩
    · rw [none_]; rfl
    · obtain ⟨n, day, le⟩ := h.published d r result
      rw [result, day]; exact decide_eq_true le
  · rcases Option.eq_none_or_eq_some (s.district d).result with none_ | ⟨r, result⟩
    · rw [none_]; rfl
    · obtain ⟨n, day, before⟩ := h.unclosed d un
      rw [result, day]; exact decide_eq_true (before r result)
  · rcases Option.eq_none_or_eq_some s.flight with none_ | ⟨f, flown⟩
    · rw [none_]; rfl
    · rw [flown]; exact decide_eq_true (h.flight f flown)

theorem Snapshot.result_nightDay (sn : Snapshot) : sn.result.nightDay = sn.nightDay := by
  unfold Snapshot.result; split <;> rfl

namespace State.Dated

section
variable {s t : State} (h : s.Dated)
include h

/-- With no new result, no new flight and no district newly to be closed, results stay dated. -/
theorem kept (day : t.nck.nightDay = s.nck.nightDay) (flight : ∀ f, t.flight = some f → s.flight = some f)
    (result : ∀ d, (t.district d).result = (s.district d).result) (unclosed : ∀ d, t.Unclosed d → s.Unclosed d) : t.Dated where
  published d r := by rw [result, day]; exact h.published d r
  unclosed d un := by rw [result, day]; exact h.unclosed d (unclosed d un)
  flight f flown := by rw [day]; exact h.flight f (flight f flown)

theorem same (night : s.SameNight t) : t.Dated := by
  have state (d : District) : (t.district d).nightState = (s.district d).nightState := by rw [night.district]
  have result (d : District) : (t.district d).result = (s.district d).result := by rw [night.district]
  exact h.kept night.nightDay (fun f flown => night.flight.symm.trans flown) result fun d un => by
    unfold State.Unclosed at un
    rwa [state] at un

theorem joined {d : District} {why : QueueReason} (open_ : (s.district d).nightState = .opened) : (s.enqueue d why).Dated := by
  have district (e : District) := s.district_enqueue d e why
  refine h.kept (by rw [State.enqueue_eq]) (fun f flown => by rwa [State.enqueue_eq] at flown) (fun e => ?_) fun e un => ?_
  · rw [district]; split <;> simp [*]
  · unfold State.Unclosed at un
    rw [district] at un
    split at un
    next same => subst same; exact .inl open_
    · exact un

theorem began {e : QueueEntry} (order : s.InOrder) (chosen : s.chosen = some e) : (s.beginEvaluation e).Dated := by
  have queued : (s.district e.district).nightState = .queued :=
    (order.queued _).2 (List.mem_map_of_mem (List.mem_of_find?_eq_some chosen))
  obtain ⟨n, day, before⟩ := h.unclosed e.district (.inr (.inl queued))
  have district (d : District) : (s.beginEvaluation e).district d =
      if d = e.district then { s.district e.district with nightState := .evaluating } else s.district d :=
    s.district_modDistrict e.district d _
  have result (d : District) : ((s.beginEvaluation e).district d).result = (s.district d).result := by
    rw [district]; split <;> simp [*]
  refine ⟨fun d r => by rw [result]; exact h.published d r, fun d un => ?_, fun f flown => ?_⟩
  · rw [result]
    unfold State.Unclosed at un
    rw [district] at un
    split at un
    next same => subst same; exact ⟨n, day, before⟩
    · exact h.unclosed d un
  · obtain rfl := Option.some.inj flown
    change s.nck.nightDay = some (s.nck.nightDay.getD 0)
    rw [day]; rfl

theorem completed {f : Flight} (flown : s.flight = some f) :
    (s.settleResult f.district f.snapshot.cellPressure f.snapshot.result).Dated := by
  have district (e : District) := s.settleResult_district f.district f.snapshot.cellPressure f.snapshot.result e
  have frame := s.settleResult_frame f.district f.snapshot.cellPressure f.snapshot.result
  generalize s.settleResult f.district f.snapshot.cellPressure f.snapshot.result = t at district frame ⊢
  have flight : t.flight = none := (congrArg State.flight frame).trans rfl
  have day : t.nck.nightDay = s.nck.nightDay := (congrArg (fun u : State => u.nck.nightDay) frame).trans rfl
  have current := h.flight f flown
  refine ⟨fun e r result => ?_, fun e un => ?_, fun g flying => by rw [flight] at flying; exact nomatch flying⟩
  · rw [day]
    rw [district] at result
    split at result
    · obtain rfl := Option.some.inj result
      exact ⟨_, current, Nat.le_of_eq (Snapshot.result_nightDay _)⟩
    · exact h.published e r result
  · rw [day]
    unfold State.Unclosed at un
    rw [district] at un ⊢
    split at un
    · rcases un with x | x | x <;> exact nomatch x
    next other => rw [if_neg other]; exact h.unclosed e un

theorem nightOpened {n : Nat} (order : s.InOrder) (out : s.nck.phase = .stopped ∨ s.nck.phase = .daytime ∨ (s.queue = [] ∧ s.flight = none))
    (later : ∀ m, s.nck.nightDay = some m → m < n) : (s.openNight n).Dated := by
  have grounded : s.flight = none := by
    rcases out with stopped | daytime | empty
    · exact (order.out (by rw [stopped]; decide) (by rw [stopped]; decide)).2
    · exact (order.out (by rw [daytime]; decide) (by rw [daytime]; decide)).2
    · exact empty.2
  have frame := s.openNight_eq n
  have districts : (s.openNight n).districts = (s.nightAssigned n).districts := by rw [frame]
  have district (d : District) : (s.openNight n).district d = (s.openingAct n d).record (s.district d) :=
    (congrArg (Table.get · d) districts).trans ((s.nightAssigned_acted n).district d)
  generalize s.nightAssigned n = v at frame
  generalize s.openNight n = t at district frame ⊢
  have flight : t.flight = none := (congrArg State.flight frame).trans grounded
  have day : t.nck.nightDay = some n := (congrArg (fun u : State => u.nck.nightDay) frame).trans rfl
  have old (d : District) (r : Result) (result : (s.district d).result = some r) : r.nightDay < n := by
    obtain ⟨m, night, le⟩ := h.published d r result
    exact lt_of_le_of_lt le (later m night)
  refine ⟨fun d r result => ⟨n, day, ?_⟩, fun d un => ⟨n, day, fun r result => ?_⟩, fun f flown => by rw [flight] at flown; exact nomatch flown⟩
  · rw [district] at result
    unfold State.openingAct at result
    split_ifs at result
    · exact (old d r result).le
    · obtain rfl := Option.some.inj result
      exact le_refl n
    · exact (old d r result).le
  · unfold State.Unclosed at un
    rw [district] at un result
    unfold State.openingAct at un result
    split_ifs at un result
    · exact old d r result
    · rcases un with x | x | x <;> exact nomatch x
    · exact old d r result

theorem nightAbandoned (order : s.InOrder) : s.abandonNight.Dated := by
  have frame := State.abandonNight_eq (s := s) rfl
  have districts : s.abandonNight.districts = (s.nightDropped (s.nck.nightDay.getD 0)).districts := by rw [frame]
  have district (d : District) : s.abandonNight.district d = (s.droppingAct (s.nck.nightDay.getD 0) d).record (s.district d) :=
    (congrArg (Table.get · d) districts).trans ((s.nightDropped_acted _).district d)
  have nck := s.abandonNight_nck
  generalize s.nightDropped (s.nck.nightDay.getD 0) = v at frame
  generalize s.abandonNight = t at district frame nck ⊢
  have flight : t.flight = none := (congrArg State.flight frame).trans rfl
  simp only [State.droppingAct_record] at district
  have unclosed {d : District} (dropped : s.Dropped d) : s.Unclosed d := by
    rcases dropped with o | q | flown
    · exact .inl o
    · exact .inr (.inl q)
    · exact .inr (.inr ((order.evaluating d).2 flown))
  refine ⟨fun d r result => ?_, fun d un => ?_, fun f flown => by rw [flight] at flown; exact nomatch flown⟩
  · rw [nck]
    rw [district] at result
    dsimp only at result
    split at result
    next dropped =>
      obtain ⟨n, day, -⟩ := h.unclosed d (unclosed dropped)
      obtain rfl := Option.some.inj result
      exact ⟨n, day, by rw [day]; exact le_refl n⟩
    · exact h.published d r result
  · unfold State.Unclosed at un
    rw [district] at un
    dsimp only at un
    split at un
    · rcases un with x | x | x <;> exact nomatch x
    next kept =>
      rcases un with o | q | e
      · exact absurd (.inl o) kept
      · exact absurd (.inr (.inl q)) kept
      · exact absurd (.inr (.inr ((order.evaluating d).1 e))) kept

theorem restarted : s.restart.Dated := by
  have district (d : District) := s.restart_district d
  have frame := s.restart_eq
  generalize s.restart = t at district frame ⊢
  have flight : t.flight = none := (congrArg State.flight frame).trans rfl
  have day : t.nck.nightDay = s.nck.nightDay := (congrArg (fun u : State => u.nck.nightDay) frame).trans rfl
  refine h.kept day (fun f flown => by rw [flight] at flown; exact nomatch flown) (fun d => by rw [district]) fun d un => ?_
  unfold State.Unclosed at un
  rw [district] at un
  rcases un with x | x | x <;> exact nomatch x

theorem outOfService (d : District) :
    State.Dated (((({ s with queue := s.queue.filter (fun e => decide (e.district ≠ d)) } : State).modDistrict d
        (fun r => { r with inService := false, nightState := .idle })).modWatch d
        (fun w => { w with state := .out, excess := 0, gap := 0 })).changeAlert d .none) := by
  rw [State.changeAlert_frame]
  have district (e : District) : (s.modDistrict d (fun r => { r with inService := false, nightState := .idle })).district e =
    if e = d then { s.district d with inService := false, nightState := .idle } else s.district e := s.district_modDistrict d e _
  refine h.kept rfl (fun _ flown => flown) (fun e => (congrArg DistrictRecord.result (district e)).trans ?_) fun e un => ?_
  · split <;> simp [*]
  · have un : (s.modDistrict d (fun r => { r with inService := false, nightState := .idle })).Unclosed e := un
    unfold State.Unclosed at un
    rw [district] at un
    split at un
    · rcases un with x | x | x <;> exact nomatch x
    · exact un

theorem intoService (d : District) : (s.putIn d).Dated := by
  have district (e : District) : (s.putIn d).district e =
      if e = d then { s.district d with inService := true, nightState := if s.nightInProgress then .skipped else .idle } else s.district e :=
    s.district_modDistrict d e _
  refine h.kept rfl (fun _ flown => flown) (fun e => ?_) fun e un => ?_
  · rw [district]; split <;> simp [*]
  · unfold State.Unclosed at un
    rw [district] at un
    split at un
    · dsimp only at un
      split at un <;> rcases un with x | x | x <;> exact nomatch x
    · exact un

/-- Holds that end, or are placed, change no result and no night state. -/
theorem holds {ds : Table 32 DistrictRecord} (only : ∀ d : District, ds.get d = { s.district d with hold := (ds.get d).hold }) :
    State.Dated { s with districts := ds } := by
  refine h.kept rfl (fun _ flown => flown) (fun d => (congrArg DistrictRecord.result (only d)).trans rfl) fun d un => ?_
  have state : (ds.get d).nightState = (s.district d).nightState := (congrArg DistrictRecord.nightState (only d)).trans rfl
  unfold State.Unclosed at un
  change (ds.get d).nightState = _ ∨ (ds.get d).nightState = _ ∨ (ds.get d).nightState = _ at un
  rwa [state] at un

theorem change (order : s.InOrder) (moves : Change s t) : t.Dated := by
  have unheld {r r' : DistrictRecord} (ends : r' = r ∨ r' = { r with hold := none }) : r' = { r with hold := r'.hold } := by
    rcases ends with rfl | rfl <;> rfl
  cases moves with
  | nothing same => exact h.same (State.sameNight_of_bare same)
  | store moves => exact h.same moves.sameNight
  | watch moves => exact h.same moves.same.sameNight
  | night moves =>
    cases moves with
    | prompted => rw [State.prompt_eq]; exact { h with }
    | chose => exact { h with }
    | joined d why open_ settling => exact h.joined open_
    | windowEnded collecting => exact { h with }
    | graceEnded _ none_open => exact { h with }
    | daytime past => exact { h with }
    | unheld ds ends => exact h.holds fun d => unheld (ends d)
    | held d x free _ _ =>
      refine h.holds (ds := (s.modDistrict d (fun r => { r with hold := some x })).districts) fun e => ?_
      have district : (s.modDistrict d (fun r => { r with hold := some x })).districts.get e = _ := s.district_modDistrict d e _
      rw [district]
      split
      next same => subst same; rfl
      · rfl
    | began e chosen idle due => exact h.began order chosen
    | completed f flown => exact h.completed flown
    | nightOpened n out _ later => exact h.nightOpened order out later
    | nightAbandoned closing => exact h.nightAbandoned order
    | restarted => exact h.restarted
    | outOfService d free => exact h.outOfService d
    | intoService d out => exact h.intoService d

theorem stationSet (p : Position) (st : Station) : (s.setStation p st).Dated := by
  have moved := h.holds (ds := (s.setStation p st).districts) fun d => by
    have district := (s.setStation_district p st d).trans (s.entryWritten_district p st d)
    have at_ : (s.setStation p st).districts.get d = _ := district
    rw [at_]
    split <;> rfl
  have frame := s.setStation_effect p st
  generalize s.setStation p st = t at frame moved ⊢
  rw [frame]
  exact { moved with }

/-- Every move keeps results dated. -/
theorem move (order : s.InOrder) (moves : Move s t) : t.Dated := by
  cases moves with
  | change moves => exact h.change order moves
  | entry p st _ _ => exact h.stationSet p st

end

end State.Dated

end Sys2Proof.Machine
end

section
/-!
PROOF. Which requests move the Night Clock, and that no other does (R11 to R17, R69).
-/

namespace Sys2Proof.Machine

/-! ## Operations that leave the Night Clock -/

section
variable (s : State)

theorem State.prompt_nck : s.prompt.nck = s.nck := by rw [State.prompt_eq]

theorem State.expireIfReached_nck (t : ClockTime) (d : District) : (s.expireIfReached t d).nck = s.nck := by
  unfold State.expireIfReached
  split
  · split_ifs
    · exact s.expireHold_nck d
    · rfl
  · rfl

theorem State.configChanged_nck (p : Position) : (s.configChanged p).nck = s.nck := by rw [State.configChanged_frame]

theorem State.checkSlotDistricts_nck (sl : Slot) : (s.checkSlotDistricts sl).nck = s.nck := by rw [State.checkSlotDistricts_frame]

theorem State.changeAlert_nck (d : District) (a : Alert) : (s.changeAlert d a).nck = s.nck := by rw [State.changeAlert_frame]

theorem State.rejudge_nck (d : District) : (s.rejudge d).nck = s.nck := rfl

theorem State.setStation_nck (p : Position) (st : Station) : (s.setStation p st).nck = s.nck := by rw [State.setStation_effect]

theorem State.acknowledge_nck (d : District) : (s.acknowledge d).nck = s.nck := by
  unfold State.acknowledge
  split
  · rfl
  · rw [State.changeAlert_nck]

theorem State.markRepaired_nck (d : District) : (s.markRepaired d).nck = s.nck := by
  unfold State.markRepaired
  rw [State.changeAlert_nck]
  rfl

theorem State.examineAll_nck (es : List Entry) : (s.examineAll es).1.nck = s.nck := by
  induction es generalizing s with
  | nil => rfl
  | cons e es ih => exact (ih _).trans (s.examine_nck e)

theorem State.judgePressure_nck (d : District) (day interval value : Nat) : (s.judgePressure d day interval value).1.nck = s.nck := by
  unfold State.judgePressure
  dsimp only
  generalize (if decide (2000 < value) = true then 2000 else value) = v
  split_ifs <;> rfl

end

/-! ## Requests that leave the Night Clock -/

/-- The requests that may move the Night Clock: its own, and SET SERVICE, whose district may be the last of the night (R69). -/
def movesClock : Kind → Bool
  | .setTime | .setWindow | .closeNight | .restartEngine | .setService => true
  | _ => false

section
variable (s : State) (p : Position) (body : List Byte)

theorem bindMeter_nck : (bindMeter s p body).1.nck = s.nck := by
  unfold bindMeter
  split
  · rfl
  · split
    · dsimp only
      split_ifs
      · rfl
      · rfl
      · rfl
      · rfl
      · rw [accept_state, State.configChanged_nck]; rfl
    · rfl

theorem enableMeter_nck : (enableMeter s p body).1.nck = s.nck := by
  unfold enableMeter
  split
  · rfl
  · dsimp only
    split_ifs
    · rfl
    · rfl
    · rfl
    · rfl
    · rfl
    · rw [accept_state, State.configChanged_nck]; rfl

theorem disableMeter_nck : (disableMeter s p body).1.nck = s.nck := by
  unfold disableMeter
  split
  · rfl
  · dsimp only
    split_ifs
    · rfl
    · rfl
    · rfl
    · rw [accept_state, State.configChanged_nck, State.checkSlotDistricts_nck]; rfl

theorem forgetStrays_nck : (forgetStrays s p body).1.nck = s.nck := by unfold forgetStrays; split_ifs <;> rfl

theorem postReading_nck : (postReading s p body).1.nck = s.nck := by
  unfold postReading
  split
  · rfl
  · split
    · rfl
    · exact s.examineAll_nck _

theorem postPressure_nck : (postPressure s p body).1.nck = s.nck := by
  unfold postPressure
  split
  · rfl
  · split
    · rfl
    · split
      · rfl
      · split
        · rfl
        · exact s.judgePressure_nck _ _ _ _

theorem configureDistrict_nck : (configureDistrict s p body).1.nck = s.nck := by
  unfold configureDistrict
  split
  · rfl
  · split
    · split_ifs
      · rfl
      · split
        · rfl
        · rw [accept_state, State.configChanged_nck]; rfl
    · rfl

theorem holdDistrict_nck : (holdDistrict s p body).1.nck = s.nck := by
  unfold holdDistrict
  split
  · rfl
  · split
    · rfl
    · split_ifs
      · rfl
      · split <;> rfl

theorem releaseDistrict_nck : (releaseDistrict s p body).1.nck = s.nck := by
  unfold releaseDistrict
  split
  · rfl
  · split
    · rfl
    · split
      · rfl
      · split_ifs
        · rw [accept_state, State.prompt_nck, State.removeHold_nck]
        · rfl

theorem setBaselineMode_nck : (setBaselineMode s p body).1.nck = s.nck := by
  unfold setBaselineMode
  split
  · rfl
  · split
    · split_ifs
      · rfl
      · split
        · rfl
        · rw [accept_state, State.rejudge_nck, State.configChanged_nck]; rfl
    · rfl

theorem loadRing_nck : (loadRing s p body).1.nck = s.nck := by
  unfold loadRing
  split
  · rfl
  · split
    · rfl
    · split_ifs
      · rfl
      · split
        · rfl
        · rw [accept_state, State.rejudge_nck, State.configChanged_nck]; rfl

theorem clearRing_nck : (clearRing s p body).1.nck = s.nck := by
  unfold clearRing
  split
  · rfl
  · split
    · rfl
    · split
      · rfl
      · rw [accept_state, State.rejudge_nck, State.configChanged_nck]; rfl

theorem acknowledge_nck : (acknowledge s p body).1.nck = s.nck := by
  unfold acknowledge
  split
  · rfl
  · split
    · rfl
    · split_ifs
      · rfl
      · rfl
      · rw [accept_state, State.acknowledge_nck]

theorem markRepaired_nck : (markRepaired s p body).1.nck = s.nck := by
  unfold markRepaired
  split
  · rfl
  · split
    · rfl
    · split_ifs
      · rfl
      · rfl
      · rw [accept_state, State.markRepaired_nck]

theorem setStation_nck : (setStation s p body).1.nck = s.nck := by
  unfold setStation
  split
  · rfl
  · split
    · rfl
    · split
      · dsimp only
        split
        · rfl
        · split
          · rfl
          · rw [accept_state, State.setStation_nck]
          · split_ifs
            · rfl
            · rfl
            · rw [accept_state, State.setStation_nck]
      · rfl

theorem setEventMask_nck : (setEventMask s p body).1.nck = s.nck := by
  unfold setEventMask
  split
  · rfl
  · split_ifs <;> rfl

theorem takeNotice_nck : (takeNotice s p body).1.nck = s.nck := by
  unfold takeNotice
  split_ifs
  · rfl
  · split <;> rfl

theorem readEvents_nck : (readEvents s p body).1.nck = s.nck := by unfold readEvents; split_ifs <;> rfl

theorem clearCounters_nck : (clearCounters s p body).1.nck = s.nck := by unfold clearCounters; split_ifs <;> rfl

theorem handle_nck {k : Kind} (other : movesClock k = false) : (handle k s p body).1.nck = s.nck := by
  cases k with
  | setTime => exact nomatch other
  | setWindow => exact nomatch other
  | closeNight => exact nomatch other
  | restartEngine => exact nomatch other
  | setService => exact nomatch other
  | bindMeter => exact bindMeter_nck s p body
  | enableMeter => exact enableMeter_nck s p body
  | disableMeter => exact disableMeter_nck s p body
  | readMeter => exact congrArg State.nck (readMeter_state s p body)
  | readStrayList => exact congrArg State.nck (readStrayList_state s p body)
  | forgetStrays => exact forgetStrays_nck s p body
  | postReading => exact postReading_nck s p body
  | postPressure => exact postPressure_nck s p body
  | configureDistrict => exact configureDistrict_nck s p body
  | holdDistrict => exact holdDistrict_nck s p body
  | releaseDistrict => exact releaseDistrict_nck s p body
  | readDistrict => exact congrArg State.nck (readDistrict_state s p body)
  | readResult => exact congrArg State.nck (readResult_state s p body)
  | readQueue => exact congrArg State.nck (readQueue_state s p body)
  | setBaselineMode => exact setBaselineMode_nck s p body
  | loadRing => exact loadRing_nck s p body
  | clearRing => exact clearRing_nck s p body
  | readRing => exact congrArg State.nck (readRing_state s p body)
  | acknowledge => exact acknowledge_nck s p body
  | markRepaired => exact markRepaired_nck s p body
  | readWatch => exact congrArg State.nck (readWatch_state s p body)
  | setStation => exact setStation_nck s p body
  | setEventMask => exact setEventMask_nck s p body
  | takeNotice => exact takeNotice_nck s p body
  | readEvents => exact readEvents_nck s p body
  | readStatus => exact congrArg State.nck (readStatus_state s p body)
  | clearCounters => exact clearCounters_nck s p body

end

end Sys2Proof.Machine
end

section
/-!
PROOF. The Night Clock on time through every step: its ranges, the night mark, and where the clock stands in each phase (R1, R4, R5, R11 to R17).
-/

namespace Sys2Proof.Machine

/-- The night day and mark of a set clock (R4). -/
structure State.Marked (s : State) : Prop where
  set : s.nck.phase ≠ .stopped
  night : s.nightInProgress = true → ∃ n, s.nck.nightDay = some n ∧ s.nck.nightMark = some (s.graceExpiryOf n)
  calendar : ∀ n, s.nck.nightDay = some n → n ≤ 65535
  mark : s.nck.nightMark = none ↔ s.nck.nightDay = none

/-- `ClockLaw` and `NightPositionLaw` while the clock is set, their parts named. -/
structure State.OnTime (s : State) : Prop where
  clockSet : s.nck.clockSet = true
  day : s.nck.clock.day ≤ 65535
  proper : s.nck.clock.Proper
  divider : s.nck.divider ≤ 1966079
  fits : s.WindowFits
  marked : s.Marked
  stands : s.StandsAt s.nck.phase s.nck.nightDay s.nck.clock

/-- The clock's two laws. -/
abbrev ClockLaws (s : State) : Prop := ClockLaw s ∧ NightPositionLaw s

theorem clockLaws_congr {s u : State} (nck : u.nck = s.nck) : ClockLaws u ↔ ClockLaws s := by
  have own : ClockLaws { s with nck := u.nck } ↔ ClockLaws s := by rw [nck]
  exact own

theorem onTime_congr {s u : State} (nck : u.nck = s.nck) (h : s.OnTime) : u.OnTime := by
  have own : State.OnTime { s with nck := u.nck } := by rw [nck]; exact h
  exact ⟨own.clockSet, own.day, own.proper, own.divider, own.fits, ⟨own.marked.set, own.marked.night, own.marked.calendar, own.marked.mark⟩,
    ⟨own.stands.collecting, own.stands.settling, own.stands.closing⟩⟩

theorem clockLaws_iff {s : State} (set : s.nck.clockSet = true) : ClockLaws s ↔ s.OnTime := by
  have running : (s.nck.phase = .stopped ↔ s.nck.clockSet = false) ↔ s.nck.phase ≠ .stopped := by simp [set]
  constructor
  · rintro ⟨⟨day, proper, divider, w1, w2, w3, w4, w5, stopped, -, night, calendar, mark, none_iff⟩, position⟩
    have fits : s.WindowFits := ⟨w1, w2, w3, w4, w5⟩
    refine ⟨set, day, proper, divider, fits, ⟨running.1 stopped, fun progress => ?_, fun n known => ?_, none_iff⟩,
      (nightPositionLaw_iff fits proper night).1 position⟩
    · obtain ⟨n, known⟩ := Option.ne_none_iff_exists'.1 (night progress)
      exact ⟨n, known, by rw [mark progress, known]; rfl⟩
    · rw [known] at calendar; exact of_decide_eq_true calendar
  · rintro ⟨-, day, proper, divider, fits, marked, stands⟩
    have night : s.nightInProgress = true → s.nck.nightDay ≠ none := fun progress => by
      obtain ⟨n, known, -⟩ := marked.night progress
      rw [known]; nofun
    obtain ⟨w1, w2, w3, w4, w5⟩ := id fits
    refine ⟨⟨day, proper, divider, w1, w2, w3, w4, w5, running.2 marked.set, fun unset => ?_, night, ?_, fun progress => ?_, marked.mark⟩,
      (nightPositionLaw_iff fits proper night).2 stands⟩
    · rw [set] at unset; exact nomatch unset
    · rcases Option.eq_none_or_eq_some s.nck.nightDay with none_ | ⟨n, known⟩
      · rw [none_]; rfl
      · rw [known]; exact decide_eq_true (marked.calendar n known)
    · obtain ⟨n, known, marks⟩ := marked.night progress
      rw [known, marks]; rfl

/-! ## Events (R5 to R10) -/

/-- What an event does to the Night Clock: nothing; a new phase of the night in progress; or a new night. -/
theorem State.reach_nck (s : State) (e : ClockEvent) :
    (s.reach e).nck = s.nck ∨
    (∃ ph, s.nightInProgress = true ∧ ph ≠ .stopped ∧ (s.reach e).nck = { s.nck with phase := ph }) ∨
    (∃ n, e = .windowStart n ∧ (s.nck.phase = .daytime ∨ s.nck.phase = .closing) ∧
      (s.reach e).nck = { s.nck with phase := .collecting, nightDay := some n, nightMark := some (s.graceExpiryOf n) }) := by
  cases e with
  | windowStart n =>
    have reached : (s.reach (.windowStart n)).nck = _ := s.reachWindowStart_nck n
    by_cases opens : s.nck.phase = .daytime ∨ s.nck.phase = .closing
    · exact .inr (.inr ⟨n, rfl, opens, reached.trans (if_pos opens)⟩)
    · exact .inl (reached.trans (if_neg opens))
  | windowEnd =>
    change s.reachWindowEnd.nck = _ ∨ (∃ ph, _ ∧ _ ∧ s.reachWindowEnd.nck = _) ∨ _
    by_cases collecting : s.nck.phase = .collecting
    · refine .inr (.inl ?_)
      have progress := s.nightInProgress_iff.2 (.inl collecting)
      have queued := s.completeQueued_nck
      rw [State.reachWindowEnd_eq collecting]
      by_cases grace : s.nck.grace = 0
      · obtain ⟨ph, kind, nck⟩ := s.completeQueued.closeByGrace_nck
        rw [if_pos grace]
        exact ⟨ph, progress, by rcases kind with rfl | rfl <;> decide, nck.trans (by rw [queued])⟩
      · have settling : s.completeQueued.nck.phase = .settling := by rw [queued]
        obtain ⟨ph, kind, nck⟩ := s.completeQueued.nightEndTest_nck (.inl settling)
        rw [if_neg grace]
        exact ⟨ph, progress, by rw [settling] at kind; rcases kind with rfl | rfl <;> decide, nck.trans (by rw [queued])⟩
    · exact .inl (congrArg State.nck (if_neg collecting))
  | graceExpiry =>
    change s.reachGraceExpiry.nck = _ ∨ (∃ ph, _ ∧ _ ∧ s.reachGraceExpiry.nck = _) ∨ _
    by_cases settling : s.nck.phase = .settling
    · obtain ⟨ph, kind, nck⟩ := s.closeByGrace_nck
      refine .inr (.inl ⟨ph, s.nightInProgress_iff.2 (.inr (.inl settling)), by rcases kind with rfl | rfl <;> decide, ?_⟩)
      exact (congrArg State.nck (if_pos settling)).trans nck
    · exact .inl (congrArg State.nck (if_neg settling))
  | holdExpiry d => exact .inl (s.expireHold_nck d)

theorem marked_congr {s u : State} (nck : u.nck = s.nck) (h : s.Marked) : u.Marked := by
  have own : State.Marked { s with nck := u.nck } := by rw [nck]; exact h
  exact ⟨own.set, own.night, own.calendar, own.mark⟩

namespace State.Marked

variable {s t : State} (h : s.Marked)
include h

/-- A new phase of the night in progress, or DAYTIME, keeps night day and mark. -/
theorem phase {ph : Phase} (nck : t.nck = { s.nck with phase := ph }) (set : ph ≠ .stopped)
    (progress : s.nightInProgress = true ∨ ph = .daytime) : t.Marked := by
  have own : State.Marked { s with nck.phase := ph } := by
    refine { h with set := set, night := fun on => ?_ }
    rcases progress with progress | rfl
    · exact h.night progress
    · exact nomatch on
  exact marked_congr (s := { s with nck.phase := ph }) nck own

omit h in
theorem opened {n : Nat} (fits : n ≤ 65535)
    (nck : t.nck = { s.nck with phase := .collecting, nightDay := some n, nightMark := some (s.graceExpiryOf n) }) : t.Marked := by
  refine marked_congr (s := { s with nck.phase := .collecting, nck.nightDay := some n, nck.nightMark := some (s.graceExpiryOf n) }) nck ?_
  exact ⟨nofun, fun _ => ⟨n, rfl, rfl⟩, fun m same => Option.some.inj same ▸ fits, iff_of_false nofun nofun⟩

theorem reach (e : ClockEvent) (may : ∀ n, e = .windowStart n → n ≤ 65535) : (s.reach e).Marked := by
  rcases s.reach_nck e with same | ⟨ph, progress, set, nck⟩ | ⟨n, start, -, nck⟩
  · exact marked_congr same h
  · exact h.phase nck set (.inl progress)
  · exact opened (may n start) nck

end State.Marked

/-! ## A span of clock time (R2, R12) -/

/-- The clock placed at `t1` with the events of `l` still to take. -/
structure State.OnWay (s : State) (t1 : ClockTime) (u : State) (l : List (ClockTime × ClockEvent)) : Prop where
  moved : s.nck.Moved u.nck
  ahead : OnAgenda s t1 l u.nck.phase u.nck.nightDay
  marked : u.Marked

theorem State.OnWay.take {s u v : State} {t1 : ClockTime} {l : List (ClockTime × ClockEvent)} (h : s.OnWay t1 u l) (fits : s.WindowFits)
    {e : ClockTime × ClockEvent} (first : IsFirst l e) (nck : v.nck = (u.reach e.2).nck) : s.OnWay t1 v (l.erase e) := by
  obtain ⟨moved, moves⟩ := u.reach_moves e.2
  have grace : u.nck.grace = s.nck.grace := by rw [h.moved]
  rw [grace] at moves
  refine ⟨nck ▸ h.moved.trans moved, nck ▸ OnAgenda.take h.ahead fits first moves, marked_congr nck (h.marked.reach e.2 fun n start => ?_)⟩
  obtain ⟨x, k⟩ := e
  have start : k = .windowStart n := start
  subst start
  obtain ⟨-, -, -, calendar, -⟩ := h.ahead.starts x n first.1
  have total := (ClockTime.notAfter_iff (s.graceExpiryOf_proper n) (b := lastMinute) (by decide)).1 calendar
  rw [State.graceExpiryOf_total] at total
  unfold ClockTime.total lastMinute at total
  dsimp only at total
  omega

/-- A clock is on time where phase, night day and night mark have moved in keeping with it. -/
theorem onTime_of_moved {u v : State} (clockSet : u.nck.clockSet = true) (day : u.nck.clock.day ≤ 65535) (proper : u.nck.clock.Proper)
    (divider : u.nck.divider ≤ 1966079) (fits : u.WindowFits) (moved : u.nck.Moved v.nck) (marked : v.Marked)
    (stands : u.StandsAt v.nck.phase v.nck.nightDay u.nck.clock) : v.OnTime := by
  obtain ⟨wstart, wlen, grace, clock⟩ :
      v.nck.wstart = u.nck.wstart ∧ v.nck.wlen = u.nck.wlen ∧ v.nck.grace = u.nck.grace ∧ v.nck.clock = u.nck.clock := by
    rw [moved]; exact ⟨rfl, rfl, rfl, rfl⟩
  refine ⟨by rw [moved]; exact clockSet, by rw [clock]; exact day, by rw [clock]; exact proper, by rw [moved]; exact divider,
    by unfold State.WindowFits; rw [wstart, wlen, grace]; exact fits, marked, ?_⟩
  rw [clock]
  refine ⟨?_, ?_, ?_⟩
  · simp only [State.windowStartOf_total, State.windowEndOf_total, wstart, wlen]
    simpa only [State.windowStartOf_total, State.windowEndOf_total] using stands.collecting
  · simp only [State.graceExpiryOf_total, State.windowEndOf_total, wstart, wlen, grace]
    simpa only [State.graceExpiryOf_total, State.windowEndOf_total] using stands.settling
  · simp only [State.windowEndOf_total, wstart, wlen]
    simpa only [State.windowEndOf_total] using stands.closing

/-- A clock that is on time, placed at a later `t1`, is on time once every event of the span is taken. -/
theorem State.OnTime.span {s u : State} (h : s.OnTime) {take : State → ClockEvent → State} (nck : ∀ v e, (take v e).nck = (v.reach e).nck)
    {t1 : ClockTime} (day : t1.day ≤ 65535) (proper : t1.Proper) (later : s.nck.clock.total ≤ t1.total)
    (placed : u.nck = { s.nck with clock := t1, divider := 0 }) : (u.takeSpan take s.nck.clock t1).OnTime := by
  have fits : u.WindowFits := by unfold State.WindowFits; rw [placed]; exact h.fits
  have marked : u.Marked := by
    refine marked_congr (s := { s with nck.clock := t1, nck.divider := 0 }) placed ?_
    exact ⟨h.marked.set, h.marked.night, h.marked.calendar, h.marked.mark⟩
  have night : u.nightInProgress = true → u.nck.nightDay ≠ none := fun progress => by
    obtain ⟨n, known, -⟩ := marked.night progress
    rw [known]; nofun
  have phase : u.nck.phase = s.nck.phase := by rw [placed]
  have known : u.nck.nightDay = s.nck.nightDay := by rw [placed]
  have stands : u.StandsAt u.nck.phase u.nck.nightDay s.nck.clock := by
    have start : ∀ n, (u.windowStartOf n).total = (s.windowStartOf n).total := fun n => by
      rw [State.windowStartOf_total, State.windowStartOf_total, placed]
    have wend : ∀ n, (u.windowEndOf n).total = (s.windowEndOf n).total := fun n => by
      rw [State.windowEndOf_total, State.windowEndOf_total, placed]
    have grace : ∀ n, (u.graceExpiryOf n).total = (s.graceExpiryOf n).total := fun n => by
      rw [State.graceExpiryOf_total, State.graceExpiryOf_total, placed]
    rw [phase, known]
    refine ⟨?_, ?_, ?_⟩
    · simp only [start, wend]; exact h.stands.collecting
    · simp only [wend, grace]; exact h.stands.settling
    · simp only [wend]; exact h.stands.closing
  have start : u.OnWay t1 u (u.agenda s.nck.clock t1) :=
    ⟨rfl, State.onAgenda_agenda fits h.proper proper later night stands, marked⟩
  have done : u.OnWay t1 (u.takeSpan take s.nck.clock t1) [] :=
    State.runAgenda_keeps (P := u.OnWay t1) (fun v l k on => ⟨on.moved, on.ahead, ⟨on.marked.set, on.marked.night, on.marked.calendar, on.marked.mark⟩⟩)
      (fun v l e on first => on.take fits first (nck v e.2)) _ _ (le_refl _) u start
  refine onTime_of_moved (u := u) ?_ ?_ ?_ ?_ fits done.moved done.marked ?_
  · rw [placed]; exact h.clockSet
  · rw [placed]; exact day
  · rw [placed]; exact proper
  · rw [placed]; exact Nat.zero_le _
  · have clock : u.nck.clock = t1 := by rw [placed]
    rw [clock]; exact done.ahead.done

/-! ## Events taken where the clock stands -/

/-- The clock's laws while it is not set. -/
theorem ClockLaw.stopped {s : State} (law : ClockLaw s) (unset : s.nck.clockSet = false) : s.nck.phase = .stopped := by
  obtain ⟨-, -, -, -, -, -, -, -, stopped, -⟩ := law
  exact stopped.2 unset

/-- A law of a set clock is a law of the clock, where the clock that is not set stays as it is. -/
theorem clockLaws_of_set {s t : State} (law : ClockLaws s) (unset : s.nck.clockSet = false → t.nck = s.nck) (set : s.OnTime → t.OnTime) :
    ClockLaws t := by
  by_cases on : s.nck.clockSet = true
  · have timed := set ((clockLaws_iff on).1 law)
    exact (clockLaws_iff timed.clockSet).2 timed
  · exact (clockLaws_congr (unset (Bool.eq_false_iff.2 on))).2 law

theorem reach_of_stopped {s : State} (stopped : s.nck.phase = .stopped) (e : ClockEvent) : (s.reach e).nck = s.nck := by
  rcases s.reach_nck e with same | ⟨ph, progress, -⟩ | ⟨n, -, opens, -⟩
  · exact same
  · unfold State.nightInProgress at progress; rw [stopped] at progress; exact nomatch progress
  · rw [stopped] at opens; rcases opens with c | c <;> exact nomatch c

/-- A boundary event taken where the clock stands keeps the clock's laws, if it leaves the night where the clock stands. -/
theorem ClockLaws.reach {s : State} (law : ClockLaws s) (e : ClockEvent) (may : ∀ n, e = .windowStart n → n ≤ 65535)
    (stands : s.WindowFits → s.StandsAt s.nck.phase s.nck.nightDay s.nck.clock →
      s.StandsAt (s.reach e).nck.phase (s.reach e).nck.nightDay s.nck.clock) : ClockLaws (s.reach e) :=
  clockLaws_of_set law (fun unset => reach_of_stopped (law.1.stopped unset) e) fun h =>
    onTime_of_moved h.clockSet h.day h.proper h.divider h.fits (s.reach_moves e).1 (h.marked.reach e may) (stands h.fits h.stands)

theorem ClockLaws.windowStart {s : State} (law : ClockLaws s) (here : s.nck.clock = s.windowStartOf s.nck.clock.day) :
    ClockLaws (s.reach (.windowStart s.nck.clock.day)) := by
  refine law.reach _ (fun n start => ClockEvent.windowStart.inj start ▸ law.1.1) fun fits stands => ?_
  obtain ⟨-, moves⟩ := s.reach_moves (.windowStart s.nck.clock.day)
  rw [nightMoves_windowStart] at moves
  split at moves
  · obtain ⟨phase, day⟩ := moves
    rw [phase, day]
    have total := congrArg ClockTime.total here
    rw [State.windowStartOf_total] at total
    refine ⟨fun _ => ⟨_, rfl, by rw [State.windowStartOf_total]; omega, ?_⟩, nofun, nofun⟩
    rw [State.windowEndOf_total]
    obtain ⟨-, long, -⟩ := fits
    omega
  · rw [moves.1, moves.2]; exact stands

theorem ClockLaws.windowEnd {s : State} {n : Nat} (law : ClockLaws s) (night : s.nck.nightDay = some n) (here : s.nck.clock = s.windowEndOf n) :
    ClockLaws (s.reach .windowEnd) := by
  refine law.reach _ nofun fun fits stands => ?_
  obtain ⟨-, moves⟩ := s.reach_moves .windowEnd
  rw [nightMoves_windowEnd] at moves
  have total := congrArg ClockTime.total here
  split at moves
  · obtain ⟨day, phase⟩ := moves
    rw [day]
    have ended : ∃ m, s.nck.nightDay = some m ∧ (s.windowEndOf m).total ≤ s.nck.clock.total := ⟨n, night, total.symm.le⟩
    rcases phase with daytime | ⟨-, closing⟩ | ⟨grace, settling⟩
    · rw [daytime]; exact ⟨nofun, nofun, nofun⟩
    · rw [closing]; exact ⟨nofun, nofun, fun _ => ended⟩
    · rw [settling]
      refine ⟨nofun, fun _ => ⟨n, night, total.symm.le, ?_⟩, nofun⟩
      rw [State.windowEndOf_total] at total
      rw [State.graceExpiryOf_total]
      omega
  · rw [moves.1, moves.2]; exact stands

theorem ClockLaws.graceExpiry {s : State} (law : ClockLaws s) : ClockLaws (s.reach .graceExpiry) := by
  refine law.reach _ nofun fun fits stands => ?_
  obtain ⟨-, moves⟩ := s.reach_moves .graceExpiry
  rw [nightMoves_graceExpiry] at moves
  split at moves
  next settling =>
    obtain ⟨day, phase⟩ := moves
    rw [day]
    obtain ⟨n, night, ended, -⟩ := stands.settling settling
    rcases phase with daytime | closing
    · rw [daytime]; exact ⟨nofun, nofun, nofun⟩
    · rw [closing]; exact ⟨nofun, nofun, fun _ => ⟨n, night, ended⟩⟩
  · rw [moves.1, moves.2]; exact stands

/-- The night over, wherever the clock stands. -/
theorem ClockLaws.daytime {s t : State} (law : ClockLaws s) (set : s.nck.phase ≠ .stopped) (nck : t.nck = { s.nck with phase := .daytime }) :
    ClockLaws t := by
  refine clockLaws_of_set law (fun unset => absurd (law.1.stopped unset) set) fun h => ?_
  refine onTime_of_moved h.clockSet h.day h.proper h.divider h.fits ?_ (h.marked.phase nck (by decide) (.inr rfl)) ?_
  · rw [nck]
  · rw [nck]; exact ⟨nofun, nofun, nofun⟩

theorem ClockLaws.nightEndTest {s t : State} (law : ClockLaws t) (nck : s.nck = t.nck) : ClockLaws s.nightEndTest := by
  have own := (clockLaws_congr nck).2 law
  by_cases ends : s.NightEnds
  · rw [State.nightEndTest_of_ends ends]
    refine own.daytime (by rcases ends.1 with c | c <;> rw [c] <;> decide) ?_
    rw [State.raiseAll_frame]
  · rw [State.nightEndTest_of_not_ends ends]; exact own

/-! ## Setting the time (section 1.6) -/

/-- The clock placed where the law of the night allows. -/
theorem ClockLaws.placed {s : State} (law : ClockLaws s) (set : s.nck.clockSet = true) {t : ClockTime} (day : t.day ≤ 65535) (proper : t.Proper)
    (stands : s.StandsAt s.nck.phase s.nck.nightDay s.nck.clock → s.StandsAt s.nck.phase s.nck.nightDay t) : ClockLaws (s.placeClock t) := by
  have h := (clockLaws_iff set).1 law
  refine (clockLaws_iff (s := s.placeClock t) set).2 ⟨set, day, proper, Nat.zero_le _, h.fits,
    ⟨h.marked.set, h.marked.night, h.marked.calendar, h.marked.mark⟩, ?_⟩
  have moved := stands h.stands
  exact ⟨moved.collecting, moved.settling, moved.closing⟩

/-- Within one interval no boundary lies between two clock times (R3, R14). -/
theorem State.StandsAt.trim {s : State} {ph : Phase} {nd : Option Nat} {t t' : ClockTime} (h : s.StandsAt ph nd t)
    (same : t'.total / 15 = t.total / 15) : s.StandsAt ph nd t' := by
  refine ⟨fun c => ?_, fun c => ?_, fun c => ?_⟩
  · obtain ⟨m, night, begun, ahead⟩ := h.collecting c
    rw [State.windowStartOf_total] at begun
    rw [State.windowEndOf_total] at ahead
    exact ⟨m, night, by rw [State.windowStartOf_total]; omega, by rw [State.windowEndOf_total]; omega⟩
  · obtain ⟨m, night, begun, ahead⟩ := h.settling c
    rw [State.windowEndOf_total] at begun
    rw [State.graceExpiryOf_total] at ahead
    exact ⟨m, night, by rw [State.windowEndOf_total]; omega, by rw [State.graceExpiryOf_total]; omega⟩
  · obtain ⟨m, night, begun⟩ := h.closing c
    rw [State.windowEndOf_total] at begun
    exact ⟨m, night, by rw [State.windowEndOf_total]; omega⟩

theorem ClockLaws.backward {s : State} (law : ClockLaws s) (set : s.nck.clockSet = true) {t : ClockTime} (day : t.day ≤ 65535) (proper : t.Proper)
    (allowed : s.backwardAllowed t = true) : ClockLaws (s.placeClock t) := by
  refine law.placed set day proper fun stands => ?_
  by_cases daytime : s.nck.phase = .daytime
  · rw [daytime]; exact ⟨nofun, nofun, nofun⟩
  · refine stands.trim ?_
    have trim : t.day = s.nck.clock.day ∧ t.minute / 15 = s.nck.clock.minute / 15 := by
      unfold State.backwardAllowed at allowed
      split at allowed
      next c => exact absurd c daytime
      · simpa using allowed
    unfold ClockTime.total
    omega

theorem ClockLaws.firstSet {s : State} (law : ClockLaws s) {t : ClockTime} (day : t.day ≤ 65535) (proper : t.Proper) : ClockLaws (s.firstSet t) := by
  obtain ⟨-, -, -, w1, w2, w3, w4, w5, -, -, -, calendar, -, mark⟩ := law.1
  have fits : s.WindowFits := ⟨w1, w2, w3, w4, w5⟩
  have known : ∀ n, s.nck.nightDay = some n → n ≤ 65535 := fun n night => by
    rw [night] at calendar; exact of_decide_eq_true calendar
  have placed : (s.firstPlaced t).OnTime := by
    refine onTime_congr (s := { s with nck.clock := t, nck.divider := 0, nck.clockSet := true, nck.phase := .daytime }) (s.firstPlaced_nck t) ?_
    exact ⟨rfl, day, proper, Nat.zero_le _, fits, ⟨nofun, nofun, known, mark⟩, ⟨nofun, nofun, nofun⟩⟩
  have window : (s.firstPlaced t).nck.wstart = s.nck.wstart ∧ (s.firstPlaced t).nck.wlen = s.nck.wlen := by
    rw [s.firstPlaced_nck t]; exact ⟨rfl, rfl⟩
  have clock : (s.firstPlaced t).nck.clock = t := by rw [s.firstPlaced_nck t]
  rw [State.firstSet_eq]
  generalize s.firstPlaced t = u at placed window clock ⊢
  split
  next lands =>
    obtain ⟨begun, ahead, -⟩ := lands
    rw [ClockTime.notAfter_iff (State.windowStartOf_proper fits _) proper, State.windowStartOf_total] at begun
    rw [ClockTime.before_iff proper (s.windowEndOf_proper _), State.windowEndOf_total] at ahead
    obtain ⟨wstart, wlen⟩ := window
    have opened := State.openNight_nck (u.clockAt (s.windowStartOf t.day)) t.day
    generalize (u.clockAt (s.windowStartOf t.day)).openNight t.day = v at opened ⊢
    have nck : (v.clockAt t).nck = { u.nck with phase := .collecting, nightDay := some t.day, nightMark := some (u.graceExpiryOf t.day) } := by
      change { v.nck with clock := t } = _
      rw [opened, ← clock]
      rfl
    have timed : (v.clockAt t).OnTime := by
      refine onTime_of_moved placed.clockSet placed.day placed.proper placed.divider placed.fits (by rw [nck]) (State.Marked.opened day nck) ?_
      rw [nck, clock]
      refine ⟨fun _ => ⟨t.day, rfl, ?_, ?_⟩, nofun, nofun⟩
      · rw [State.windowStartOf_total, wstart]; exact begun
      · rw [State.windowEndOf_total, wstart, wlen]; exact ahead
    exact (clockLaws_iff timed.clockSet).2 timed
  · exact (clockLaws_iff placed.clockSet).2 placed

theorem setTime_clockLaws {s : State} (law : ClockLaws s) (p : Position) (body : List Byte) : ClockLaws (setTime s p body).1 := by
  unfold setTime
  split
  · exact law
  next t _ =>
    split_ifs with range unset same later allowed
    · exact law
    all_goals
      obtain ⟨high, proper⟩ : ¬ 65535 < t.day ∧ ¬ 1439 < t.minute := by simpa only [not_or] using range
      have day := Nat.not_lt.1 high
      have proper : t.Proper := Nat.not_lt.1 proper
    · exact law.firstSet day proper
    all_goals have set : s.nck.clockSet = true := by simpa using unset
    · exact law.placed set day proper fun stands => by rw [same]; exact stands
    · have h := (clockLaws_iff set).1 law
      have timed := h.span (u := s.placeClock t) State.reachInJump_nck day proper
        ((ClockTime.before_iff h.proper proper).1 later).le rfl
      exact (clockLaws_iff timed.clockSet).2 timed
    · exact law.backward set day proper allowed
    · exact law

theorem setWindow_clockLaws {s : State} (law : ClockLaws s) (p : Position) (body : List Byte) : ClockLaws (setWindow s p body).1 := by
  unfold setWindow
  split
  · exact law
  next f _ =>
    split_ifs with night range
    · exact law
    · exact law
    · obtain ⟨w1, w2, w3, w4, w5, -⟩ : ¬ 95 < f.wstart ∧ ¬ f.wlen < 4 ∧ ¬ 16 < f.wlen ∧ ¬ 48 < f.grace ∧ ¬ 96 < f.wstart + f.wlen ∧ _ := by
        simpa only [not_or] using range
      obtain ⟨⟨day, proper, divider, -, -, -, -, -, stopped, unset, nights, calendar, -, mark⟩, -⟩ := law
      refine ⟨⟨day, proper, divider, Nat.not_lt.1 w1, Nat.not_lt.1 w2, Nat.not_lt.1 w3, Nat.not_lt.1 w4, Nat.not_lt.1 w5, stopped, unset, nights,
        calendar, fun progress => absurd progress night, mark⟩, ?_⟩
      have out (c : s.nck.phase = .collecting ∨ s.nck.phase = .settling ∨ s.nck.phase = .closing) : False := night (s.nightInProgress_iff.2 c)
      exact ⟨fun c => (out (.inl c)).elim, fun c => (out (.inr (.inl c))).elim, fun c => (out (.inr (.inr c))).elim⟩

theorem closeNight_clockLaws {s : State} (law : ClockLaws s) (p : Position) (body : List Byte) : ClockLaws (closeNight s p body).1 := by
  unfold closeNight
  split_ifs with size settling
  · exact law
  · have reached : s.reach .graceExpiry = s.closeByGrace := if_pos settling
    rw [accept_state, ← reached]
    exact law.graceExpiry
  · exact law

theorem restartEngine_clockLaws {s : State} (law : ClockLaws s) (p : Position) (body : List Byte) : ClockLaws (restartEngine s p body).1 := by
  unfold restartEngine
  split_ifs
  · exact law
  · rw [accept_state]
    have nck : s.restart.nck = { s.nck with phase := if s.nck.clockSet then .daytime else .stopped } := by rw [State.restart_eq]
    by_cases set : s.nck.clockSet = true
    · rw [if_pos set] at nck
      have h := (clockLaws_iff set).1 law
      exact law.daytime h.marked.set nck
    · refine (clockLaws_congr ?_).2 law
      rw [nck, if_neg set, ← law.1.stopped (Bool.eq_false_iff.2 set)]

theorem setService_clockLaws {s : State} (law : ClockLaws s) (p : Position) (body : List Byte) : ClockLaws (setService s p body).1 := by
  unfold setService
  split
  · exact law
  · split
    · exact law
    · split_ifs with code same into
      · exact law
      · exact law
      · split
        · exact law
        · rw [accept_state]
          exact (clockLaws_congr (State.configChanged_nck _ p)).2 law
      · split
        · exact law
        · rw [accept_state]
          refine (clockLaws_congr (State.configChanged_nck _ p)).2 ?_
          rw [State.takeOut_eq]
          exact ClockLaws.nightEndTest law rfl

theorem handle_clockLaws {s : State} (law : ClockLaws s) (k : Kind) (p : Position) (body : List Byte) : ClockLaws (handle k s p body).1 := by
  cases moves : movesClock k with
  | false => exact (clockLaws_congr (handle_nck s p body moves)).2 law
  | true =>
    cases k with
    | setTime => exact setTime_clockLaws law p body
    | setWindow => exact setWindow_clockLaws law p body
    | closeNight => exact closeNight_clockLaws law p body
    | restartEngine => exact restartEngine_clockLaws law p body
    | setService => exact setService_clockLaws law p body
    | _ => exact nomatch moves

/-! ## Every step -/

theorem ClockLaws.minute {s : State} (law : ClockLaws s) : ClockLaws s.minuteEvent := by
  refine clockLaws_of_set law (fun unset => congrArg State.nck (if_neg (by rw [unset]; decide))) fun h => ?_
  by_cases last : s.nck.clock = lastMinute
  · have halted : s.minuteEvent = { s with nck.divider := 0 } := (if_pos h.clockSet).trans (if_pos last)
    rw [halted]
    exact ⟨h.clockSet, h.day, h.proper, Nat.zero_le _, h.fits, ⟨h.marked.set, h.marked.night, h.marked.calendar, h.marked.mark⟩,
      ⟨h.stands.collecting, h.stands.settling, h.stands.closing⟩⟩
  · rw [State.minuteEvent_of_set h.clockSet last rfl]
    refine h.span (u := s.minuteOn _) (fun _ _ => rfl) ?_ (ClockTime.plus_proper _ _) (by rw [ClockTime.plus_total]; omega) rfl
    have day := h.day
    have proper := h.proper
    have inside : ¬ (s.nck.clock.day = 65535 ∧ s.nck.clock.minute = 1439) := fun same => last (by
      obtain ⟨d, m⟩ := same
      have eta : s.nck.clock = ⟨s.nck.clock.day, s.nck.clock.minute⟩ := rfl
      rw [eta, d, m]
      rfl)
    unfold ClockTime.Proper at proper
    unfold ClockTime.plus
    dsimp only
    omega

theorem Stepped.clockLaws {s t : State} (law : ClockLaws s) (moves : Stepped s t) : ClockLaws t := by
  cases moves with
  | stays => exact law
  | ticks k fits set =>
    obtain ⟨⟨day, proper, -, rest⟩, position⟩ := law
    obtain ⟨w1, w2, w3, w4, w5, stopped, -, more⟩ := rest
    have ticking (off : s.nck.clockSet = false) : s.nck.clock = ⟨0, 0⟩ ∧ k = 0 := nomatch off.symm.trans set
    exact ⟨⟨day, proper, fits, w1, w2, w3, w4, w5, stopped, ticking, more⟩, position⟩
  | minute => exact law.minute
  | windowStart here _ => exact law.windowStart here
  | windowEnd n night here => exact law.windowEnd night here
  | graceExpiry _ _ _ => exact law.graceExpiry
  | holdExpiry d => exact (clockLaws_congr (s.expireIfReached_nck _ d)).2 law
  | choice => exact (clockLaws_congr s.choose_nck).2 law
  | completion =>
    unfold State.completeEvaluation
    split
    · refine (clockLaws_congr (State.prompt_nck _)).2 (ClockLaws.nightEndTest law ?_)
      rw [State.settleResult_frame]
    · exact law
  | frame _ ends =>
    rcases ends with quiet | ⟨u, k, p, body, first, -, rest⟩
    · exact (clockLaws_congr quiet.nck).2 law
    · exact (clockLaws_congr rest.nck).2 (handle_clockLaws ((clockLaws_congr first.nck).2 law) k p body)

/-- Settles O57: the clock's laws by what a step does to the Night Clock, the others by the elementary changes that a step is made of. -/
theorem stepsKeepTheNight : Obligations.StepsKeepTheNight := by
  intro s t moves clock position queue result
  have order := (queueLaw_iff s).1 queue
  have kept := kept_of_step (P := fun u => u.InOrder ∧ u.Dated)
    (fun strap => ⟨(queueLaw_iff _).1 (afterReset_queueLaw strap),
      dated_of_law (afterReset_clockLaw strap) ((queueLaw_iff _).1 (afterReset_queueLaw strap)) (afterReset_resultLaw strap)⟩)
    (fun u v move ⟨order, dated⟩ => ⟨order.move move, dated.move order move⟩) moves clock
    ⟨order, dated_of_law clock order result⟩
  have laws : ClockLaws t := by
    obtain ⟨q, stepped | ⟨strap, running, dn, r, n, rfl⟩⟩ := step_stepped moves
    · exact stepped.clockLaws (s := { s with pending := q }) ⟨clock, position⟩
    · exact (clockLaws_congr (s := State.afterReset strap) rfl).2 ⟨afterReset_clockLaw strap, afterReset_nightPositionLaw strap⟩
  exact ⟨laws.1, laws.2, (queueLaw_iff t).2 kept.1, kept.2.law⟩

end Sys2Proof.Machine
end

section
/-!
PROOF. What the changes other than those of the stores do to the stores: a night opened or the engine restarted purges the grid, an
evaluation begun takes its snapshot, an evaluation completed leaves its cell pressure and, if its figure is learned, one ring entry
(R60, R87, R99, R127).
-/

namespace Sys2Proof.Machine

/-- What the changes of the night, of the watches and of nothing may do to the stores. -/
structure State.NightStores (s t : State) : Prop where
  slots : t.slots = s.slots ∨ t.slots = s.slots.map Slot.purged
  strays : t.strays = s.strays
  pressure : t.pressure = s.pressure ∨ t.pressure = Table.replicate 32 emptyPressure
  held : ∀ d, (t.district d).heldPressure = (s.district d).heldPressure ∨
    ∃ f, s.flight = some f ∧ (t.district d).heldPressure = f.snapshot.cellPressure.or (s.district d).heldPressure
  baseline : ∀ d, t.baseline d = s.baseline d ∨
    ∃ f, s.flight = some f ∧ (s.baseline d).ring.getLast?.all (fun x => decide (x.nightDay < f.snapshot.nightDay)) = true ∧
      t.baseline d = { s.baseline d with ring := ringAppend (s.baseline d).ring ⟨f.snapshot.nightDay, f.snapshot.corrected⟩ }
  flight : ∀ f, t.flight = some f → s.flight = some f ∨ f.snapshot = s.snapshot f.district
  day : ∀ n, t.nck.nightDay = some n → s.nck.nightDay = some n ∨ n ≤ 65535

namespace State.NightStores

/-- A change that leaves the stores, and drops the flight or leaves it. -/
theorem quiet {s t : State} (slots : t.slots = s.slots) (strays : t.strays = s.strays) (pressure : t.pressure = s.pressure)
    (held : ∀ d, (t.district d).heldPressure = (s.district d).heldPressure) (baselines : t.baselines = s.baselines)
    (flight : t.flight = s.flight ∨ t.flight = none) (day : t.nck.nightDay = s.nck.nightDay) : s.NightStores t where
  slots := .inl slots
  strays := strays
  pressure := .inl pressure
  held d := .inl (held d)
  baseline d := .inl (congrArg (Table.get · d) baselines)
  flight f flown := by
    rcases flight with same | dropped
    · exact .inl (same.symm.trans flown)
    · exact nomatch dropped.symm.trans flown
  day n night := .inl (day.symm.trans night)

/-- A change of the district records that leaves every held pressure. -/
theorem of_districts {s : State} (ds : Table 32 DistrictRecord) (held : ∀ d, (ds.get d).heldPressure = (s.district d).heldPressure) :
    s.NightStores { s with districts := ds } := .quiet rfl rfl rfl held rfl (.inl rfl) rfl

theorem of_modDistrict (s : State) (d : District) (f : DistrictRecord → DistrictRecord) (held : ∀ r, (f r).heldPressure = r.heldPressure) :
    ∀ e, ((s.modDistrict d f).district e).heldPressure = (s.district e).heldPressure := by
  intro e
  rw [State.district_modDistrict]
  split
  next same => rw [held, same]
  · rfl

theorem of_bare {s t : State} (same : s.bare = t.bare) : s.NightStores t := by
  have slots := congrArg State.slots same.symm
  have strays := congrArg State.strays same.symm
  have pressure := congrArg State.pressure same.symm
  have district (d : District) := congrArg (fun u : State => (u.district d).heldPressure) same.symm
  have baselines := congrArg State.baselines same.symm
  have flight := congrArg State.flight same.symm
  have day := congrArg (fun u : State => u.nck.nightDay) same.symm
  exact .quiet slots strays pressure district baselines (.inl flight) day

theorem of_same {s t : State} (same : s.SameUnits t) : s.NightStores t :=
  .quiet same.slots same.strays same.pressure (fun d => by rw [same.district]) same.baselines (.inl same.flight) same.nightDay

theorem began (s : State) (e : QueueEntry) : s.NightStores (s.beginEvaluation e) where
  slots := .inl rfl
  strays := rfl
  pressure := .inl rfl
  held d := .inl (of_modDistrict s e.district (fun r => { r with nightState := .evaluating }) (fun _ => rfl) d)
  baseline _ := .inl rfl
  flight f flown := by
    obtain rfl := Option.some.inj flown
    exact .inr rfl
  day _ night := .inl night

theorem completed {s : State} {f : Flight} (flown : s.flight = some f) :
    s.NightStores (s.settleResult f.district f.snapshot.cellPressure f.snapshot.result) := by
  have district (e : District) := s.settleResult_district f.district f.snapshot.cellPressure f.snapshot.result e
  have baseline (e : District) := s.settleResult_baseline f.district f.snapshot.cellPressure f.snapshot.result e
  have frame := s.settleResult_frame f.district f.snapshot.cellPressure f.snapshot.result
  generalize s.settleResult f.district f.snapshot.cellPressure f.snapshot.result = t at district baseline frame ⊢
  constructor
  case slots => exact .inl ((congrArg State.slots frame).trans rfl)
  case strays => exact (congrArg State.strays frame).trans rfl
  case pressure => exact .inl ((congrArg State.pressure frame).trans rfl)
  case held =>
    intro e
    rw [district]
    split
    next same => subst same; exact .inr ⟨f, flown, rfl⟩
    · exact .inl rfl
  case baseline =>
    intro e
    rw [baseline]
    by_cases same : e = f.district
    · subst same
      rw [State.offer_baseline]
      split
      next learned =>
        obtain ⟨clean, -, -, last⟩ := (learns_iff _ _ _).1 learned
        rw [Snapshot.result_nightDay] at last ⊢
        rw [Snapshot.figures_of_clean clean]
        exact .inr ⟨f, flown, last, rfl⟩
      · exact .inl rfl
    · rw [State.offer_baseline_ne _ _ same]
      exact .inl rfl
  case flight => exact fun g flying => nomatch ((congrArg State.flight frame).trans rfl).symm.trans flying
  case day => exact fun n night => .inl (((congrArg (fun u : State => u.nck.nightDay) frame).trans rfl).symm.trans night)

theorem nightOpened (s : State) {n : Nat} (day : n ≤ 65535) : s.NightStores (s.openNight n) := by
  have frame := s.openNight_eq n
  have districts : (s.openNight n).districts = (s.nightAssigned n).districts := by rw [frame]
  have district (d : District) : (s.openNight n).district d = (s.openingAct n d).record (s.district d) :=
    (congrArg (Table.get · d) districts).trans ((s.nightAssigned_acted n).district d)
  generalize s.nightAssigned n = v at frame
  generalize s.openNight n = t at district frame ⊢
  have night : t.nck.nightDay = some n := (congrArg (fun u : State => u.nck.nightDay) frame).trans rfl
  exact {
    slots := .inr ((congrArg State.slots frame).trans rfl)
    strays := (congrArg State.strays frame).trans rfl
    pressure := .inr ((congrArg State.pressure frame).trans rfl)
    held := fun d => .inl (by rw [district]; cases s.openingAct n d <;> rfl)
    baseline := fun d => .inl ((congrArg (fun u : State => u.baseline d) frame).trans rfl)
    flight := fun f flown => .inl (((congrArg State.flight frame).trans rfl).symm.trans flown)
    day := fun m opened => .inr (Option.some.inj (night.symm.trans opened) ▸ day) }

theorem nightAbandoned (s : State) : s.NightStores s.abandonNight := by
  have frame := State.abandonNight_eq (s := s) rfl
  have districts : s.abandonNight.districts = (s.nightDropped (s.nck.nightDay.getD 0)).districts := by rw [frame]
  have district (d : District) : s.abandonNight.district d = (s.droppingAct (s.nck.nightDay.getD 0) d).record (s.district d) :=
    (congrArg (Table.get · d) districts).trans ((s.nightDropped_acted _).district d)
  generalize s.nightDropped (s.nck.nightDay.getD 0) = v at frame
  generalize s.abandonNight = t at district frame ⊢
  exact .quiet ((congrArg State.slots frame).trans rfl) ((congrArg State.strays frame).trans rfl) ((congrArg State.pressure frame).trans rfl)
    (fun d => by rw [district]; cases s.droppingAct (s.nck.nightDay.getD 0) d <;> rfl) ((congrArg State.baselines frame).trans rfl)
    (.inr ((congrArg State.flight frame).trans rfl)) ((congrArg (fun u : State => u.nck.nightDay) frame).trans rfl)

theorem restarted (s : State) : s.NightStores s.restart := by
  have district (d : District) := s.restart_district d
  have frame := s.restart_eq
  generalize s.restart = t at district frame ⊢
  exact {
    slots := .inr ((congrArg State.slots frame).trans rfl)
    strays := (congrArg State.strays frame).trans rfl
    pressure := .inr ((congrArg State.pressure frame).trans rfl)
    held := fun d => .inl (by rw [district])
    baseline := fun d => .inl ((congrArg (fun u : State => u.baseline d) frame).trans rfl)
    flight := fun f flown => nomatch ((congrArg State.flight frame).trans rfl).symm.trans flown
    day := fun n night => .inl (((congrArg (fun u : State => u.nck.nightDay) frame).trans rfl).symm.trans night) }

theorem stationSet (s : State) (p : Position) (st : Station) : s.NightStores (s.setStation p st) := by
  have district (d : District) : ((s.setStation p st).district d).heldPressure = (s.district d).heldPressure := by
    rw [State.setStation_district, State.entryWritten_district]; split <;> rfl
  have frame := s.setStation_effect p st
  generalize s.setStation p st = t at district frame ⊢
  exact .quiet ((congrArg State.slots frame).trans rfl) ((congrArg State.strays frame).trans rfl) ((congrArg State.pressure frame).trans rfl)
    district ((congrArg State.baselines frame).trans rfl) (.inl ((congrArg State.flight frame).trans rfl))
    ((congrArg (fun u : State => u.nck.nightDay) frame).trans rfl)

end State.NightStores

theorem NightChange.stores {s t : State} (change : NightChange s t) : s.NightStores t := by
  have quiet {u : State} (slots : u.slots = s.slots) (strays : u.strays = s.strays) (pressure : u.pressure = s.pressure)
      (districts : u.districts = s.districts) (baselines : u.baselines = s.baselines) (flight : u.flight = s.flight)
      (day : u.nck.nightDay = s.nck.nightDay) : s.NightStores u :=
    .quiet slots strays pressure (fun d => congrArg (fun ds => (Table.get ds d).heldPressure) districts) baselines (.inl flight) day
  cases change with
  | prompted => rw [State.prompt_eq]; exact quiet rfl rfl rfl rfl rfl rfl rfl
  | chose => exact quiet rfl rfl rfl rfl rfl rfl rfl
  | joined d why _ _ =>
    rw [State.enqueue_eq]
    exact .quiet rfl rfl rfl (State.NightStores.of_modDistrict s d (fun r => { r with nightState := .queued }) fun _ => rfl) rfl (.inl rfl) rfl
  | windowEnded _ => exact quiet rfl rfl rfl rfl rfl rfl rfl
  | graceEnded _ _ => exact quiet rfl rfl rfl rfl rfl rfl rfl
  | daytime _ => exact quiet rfl rfl rfl rfl rfl rfl rfl
  | unheld ds ends =>
    refine .of_districts ds fun d => ?_
    rcases ends d with same | ended
    · rw [same]
    · rw [ended]
  | held d h _ _ _ =>
    exact .quiet rfl rfl rfl (State.NightStores.of_modDistrict s d (fun r => { r with hold := some h }) fun _ => rfl) rfl (.inl rfl) rfl
  | began e _ _ _ => exact .began s e
  | completed f flown => exact .completed flown
  | nightOpened n _ day _ => exact .nightOpened s day
  | nightAbandoned _ => exact .nightAbandoned s
  | restarted => exact .restarted s
  | outOfService d _ =>
    rw [State.changeAlert_frame]
    exact .quiet rfl rfl rfl (State.NightStores.of_modDistrict s d (fun r => { r with inService := false, nightState := .idle }) fun _ => rfl)
      rfl (.inl rfl) rfl
  | intoService d _ =>
    exact .quiet rfl rfl rfl (State.NightStores.of_modDistrict s d
      (fun r => { r with inService := true, nightState := if s.nightInProgress then .skipped else .idle }) fun _ => rfl) rfl (.inl rfl) rfl

/-- Every elementary change is one of the stores, or leaves them but for the night's own effects. -/
theorem Change.stores {s t : State} (change : Change s t) : StoreChange s t ∨ s.NightStores t := by
  cases change with
  | nothing same => exact .inr (.of_bare same)
  | store change => exact .inl change
  | watch change => exact .inr (.of_same change.same)
  | night change => exact .inr change.stores

theorem Move.stores {s t : State} (move : Move s t) : StoreChange s t ∨ s.NightStores t := by
  cases move with
  | change change => exact change.stores
  | entry p st _ _ => exact .inr (.stationSet s p st)

end Sys2Proof.Machine
end

section
/-!
PROOF. Directory, stray list, baseline records and pressures stay in range through every elementary change (R21, R25, R33, R34, R38, R40,
R123, R124).
-/

namespace Sys2Proof.Machine

/-- A mean of values within a bound is within it. -/
theorem mean_le {l : List Nat} {b : Nat} (fits : ∀ x ∈ l, x ≤ b) : l.sum / l.length ≤ b := by
  refine Nat.div_le_of_le_mul ?_
  have sum : l.sum ≤ l.length * b := List.sum_le_card_nsmul l b fits
  exact sum

/-! ## Slot records (R21, R38) -/

theorem filledMean_le {cells : List Cell} {b m : Nat} (fits : ∀ c ∈ cells, c.volume ≤ b) (mean : filledMean cells = some m) : m ≤ b := by
  unfold filledMean at mean
  split at mean
  · exact nomatch mean
  · obtain rfl := Option.some.inj mean
    refine mean_le fun x mem => ?_
    obtain ⟨c, filled, rfl⟩ := List.mem_map.1 mem
    exact fits c (List.mem_filter.1 filled).1

theorem unboundSlot_purged : unboundSlot.purged = unboundSlot := by decide

theorem Slot.Consistent.purged {sl : Slot} (h : sl.Consistent) : sl.purged.Consistent := by
  obtain ⟨unbound, links, identifier, held, duplicates, conflicts, cells⟩ := h
  refine ⟨fun zero => ?_, links, identifier, ?_, duplicates, conflicts, fun c => ?_⟩
  · have was : sl = unboundSlot := unbound zero
    rw [was, unboundSlot_purged]
  · unfold Slot.purged
    dsimp only
    split
    next m mean =>
      refine decide_eq_true (filledMean_le (fun c mem => ?_) mean)
      obtain ⟨i, rfl⟩ := (Table.mem_iff _ _).1 mem
      exact (cells i).1
    · exact held
  · have empty : sl.purged.cells.get c = emptyCell := Table.get_replicate _ c
    rw [empty]
    exact ⟨Nat.zero_le _, fun _ => rfl⟩

/-- A slot's record with its "enabled" changed: an unbound slot stays disabled. -/
theorem Slot.Consistent.withEnabled {sl : Slot} (h : sl.Consistent) {b : Bool} (bound : b = true → sl.identifier ≠ 0) :
    Slot.Consistent { sl with enabled := b } := by
  obtain ⟨unbound, rest⟩ := h
  refine ⟨fun zero => ?_, rest⟩
  have was : sl = unboundSlot := unbound zero
  have off : b = false := Bool.eq_false_iff.2 fun on => bound on zero
  rw [off, was]
  rfl

theorem Cell.InRange.offered {c : Cell} (h : c.InRange) (protect estimated : Bool) {volume : Nat} (fits : volume ≤ 1048575) :
    (c.offered protect estimated volume).1.InRange := by
  obtain ⟨-, cell, -⟩ := c.offered_spec protect estimated false volume
  rw [cell]
  split
  · exact ⟨fits, by cases estimated <;> nofun⟩
  · exact h

theorem Slot.Consistent.filedWith {sl : Slot} (h : sl.Consistent) (bound : sl.identifier ≠ 0) (c : Fin 16) {cell : Cell} (fits : cell.InRange)
    (o : EntryOutcome) : (sl.filedWith c cell o).Consistent := by
  obtain ⟨-, links, identifier, held, duplicates, conflicts, cells⟩ := h
  refine ⟨fun zero => absurd zero bound, links, identifier, held, ?_, ?_, fun i => ?_⟩
  · unfold Slot.filedWith
    dsimp only
    split
    · exact bump_le _ _
    · exact duplicates
  · unfold Slot.filedWith
    dsimp only
    split
    · exact bump_le _ _
    · exact conflicts
  · have filed : (sl.filedWith c cell o).cells.get i = if i = c then cell else sl.cells.get i := Table.get_set _ c i cell
    rw [filed]
    split
    · exact fits
    · exact cells i

/-! ## The directory (R25, R33, R34) -/

/-- No slot newly enabled: consistent records make a lawful directory. -/
theorem DirectoryLaw.of_slots {s t : State} (law : DirectoryLaw s) (consistent : ∀ i, (t.slot i).Consistent)
    (same : ∀ i, (t.slot i).enabled = true → (s.slot i).enabled = true ∧ (t.slot i).identifier = (s.slot i).identifier)
    (strays : t.strays = s.strays) : DirectoryLaw t := by
  obtain ⟨-, unique, few, distinct, fits⟩ := law
  refine ⟨consistent, fun i j on on' equal => ?_, strays ▸ few, strays ▸ distinct, fun x mem => ?_⟩
  · obtain ⟨wasOn, identifier⟩ := same i on
    obtain ⟨wasOn', identifier'⟩ := same j on'
    exact unique i j wasOn wasOn' (identifier.symm.trans (equal.trans identifier'))
  · obtain ⟨low, high, count, count', day, apart⟩ := fits x (strays ▸ mem)
    refine ⟨low, high, count, count', day, fun i on => ?_⟩
    obtain ⟨wasOn, identifier⟩ := same i on
    rw [identifier]
    exact apart i wasOn

theorem DirectoryLaw.of_same {s t : State} (law : DirectoryLaw s) (slots : t.slots = s.slots) (strays : t.strays = s.strays) : DirectoryLaw t := by
  have slot (i : SlotIndex) : t.slot i = s.slot i := congrArg (Table.get · i) slots
  exact law.of_slots (fun i => slot i ▸ law.1 i) (fun i on => ⟨slot i ▸ on, by rw [slot]⟩) strays

theorem DirectoryLaw.modSlot {s : State} (law : DirectoryLaw s) {i : SlotIndex} {f : Slot → Slot} (consistent : (f (s.slot i)).Consistent)
    (same : (f (s.slot i)).enabled = true → (s.slot i).enabled = true ∧ (f (s.slot i)).identifier = (s.slot i).identifier) :
    DirectoryLaw (s.modSlot i f) := by
  refine law.of_slots (fun j => ?_) (fun j => ?_) rfl
  · rw [State.slot_modSlot]
    split
    · exact consistent
    · exact law.1 j
  · rw [State.slot_modSlot]
    split
    next at_ => subst at_; exact same
    · exact fun on => ⟨on, rfl⟩

/-- A sighting leaves at most seven of the strays, none of them of its identifier, and adds its own (R34). -/
theorem sighted_shape {strays : List Stray} (few : strays.length ≤ 8) (counts : ∀ x ∈ strays, 1 ≤ x.count) (identifier day : Nat) :
    ∃ kept count, sighted strays identifier day = kept ++ [⟨identifier, count, day⟩] ∧ kept.Sublist strays ∧
      (∀ x ∈ kept, x.identifier ≠ identifier) ∧ kept.length ≤ 7 ∧ 1 ≤ count ∧ count ≤ 255 := by
  unfold sighted
  split
  next x found =>
    have mem := List.mem_of_find?_eq_some found
    have named : x.identifier = identifier := by simpa using List.find?_some found
    refine ⟨_, _, rfl, List.filter_sublist, fun y kept => of_decide_eq_true (List.mem_filter.1 kept).2, ?_, ?_, bump_le _ _⟩
    · have fewer : (strays.filter (fun y => decide (y.identifier ≠ identifier))).length < strays.length :=
        List.length_filter_lt_length_iff_exists.2 ⟨x, mem, by simp [named]⟩
      omega
    · have := counts x mem
      unfold bump
      split <;> omega
  next absent =>
    have others (x : Stray) (mem : x ∈ strays) : x.identifier ≠ identifier := fun same =>
      List.find?_eq_none.1 absent x mem (decide_eq_true same)
    by_cases room : strays.length < 8
    · rw [if_pos room]
      exact ⟨strays, 1, rfl, List.Sublist.refl _, others, by omega, le_refl 1, by decide⟩
    · rw [if_neg room]
      exact ⟨strays.drop 1, 1, rfl, List.drop_sublist 1 strays, fun x mem => others x (List.mem_of_mem_drop mem), by simp; omega, le_refl 1,
        by decide⟩

theorem DirectoryLaw.straySeen {s : State} (law : DirectoryLaw s) {identifier day : Nat} (unknown : s.lookup identifier = none)
    (low : 1 ≤ identifier) (high : identifier ≤ 4294967295) (now : day ≤ 65535) :
    DirectoryLaw { s with strays := sighted s.strays identifier day } := by
  obtain ⟨consistent, unique, few, distinct, fits⟩ := law
  obtain ⟨kept, count, shape, sub, others, room, least, most⟩ := sighted_shape few (fun x mem => (fits x mem).2.2.1) identifier day
  refine ⟨consistent, unique, ?_, ?_, fun x mem => ?_⟩
  · change (sighted s.strays identifier day).length ≤ 8
    rw [shape, List.length_append]
    exact Nat.succ_le_succ room
  · change ((sighted s.strays identifier day).map (·.identifier)).Nodup
    rw [shape, List.map_append]
    refine List.nodup_append'.2 ⟨distinct.sublist (sub.map _), List.nodup_singleton _, List.disjoint_singleton.2 fun mem => ?_⟩
    obtain ⟨x, there, same⟩ := List.mem_map.1 mem
    exact others x there same
  · change x ∈ sighted s.strays identifier day at mem
    rw [shape, List.mem_append, List.mem_singleton] at mem
    rcases mem with old | rfl
    · exact fits x (sub.subset old)
    · exact ⟨low, high, least, most, now, fun i on same => (s.lookup_eq_none identifier).1 unknown i ⟨on, same⟩⟩

theorem DirectoryLaw.slotEnabled {s : State} (law : DirectoryLaw s) {i : SlotIndex} (bound : (s.slot i).identifier ≠ 0)
    (unique : ∀ j : SlotIndex, (s.slot j).enabled = true → (s.slot j).identifier ≠ (s.slot i).identifier) :
    DirectoryLaw { s.modSlot i (fun x => { x with enabled := true }) with
      strays := s.strays.filter (fun x => decide (x.identifier ≠ (s.slot i).identifier)) } := by
  obtain ⟨consistent, alone, few, distinct, fits⟩ := law
  have slot (j : SlotIndex) := s.slot_modSlot i j (fun x => { x with enabled := true })
  have identifier (j : SlotIndex) : ((s.modSlot i (fun x => { x with enabled := true })).slot j).identifier = (s.slot j).identifier := by
    rw [slot]; split <;> simp [*]
  have wasOn {j : SlotIndex} (other : j ≠ i) (on : ((s.modSlot i (fun x => { x with enabled := true })).slot j).enabled = true) :
      (s.slot j).enabled = true := by rwa [slot, if_neg other] at on
  refine ⟨fun j => ?_, fun j k on on' same => ?_, ?_, ?_, fun x mem => ?_⟩
  · change ((s.modSlot i (fun x => { x with enabled := true })).slot j).Consistent
    rw [slot]
    split
    · exact (consistent i).withEnabled fun _ => bound
    · exact consistent j
  · have same : (s.slot j).identifier = (s.slot k).identifier := (identifier j).symm.trans (same.trans (identifier k))
    by_cases first : j = i
    · by_cases second : k = i
      · exact first.trans second.symm
      · exact absurd (same.symm.trans (congrArg (fun l => (s.slot l).identifier) first)) (unique k (wasOn second on'))
    · by_cases second : k = i
      · exact absurd (same.trans (congrArg (fun l => (s.slot l).identifier) second)) (unique j (wasOn first on))
      · exact alone j k (wasOn first on) (wasOn second on') same
  · exact le_trans (List.length_filter_le _ _) few
  · exact distinct.sublist (List.filter_sublist.map _)
  · obtain ⟨old, apart⟩ := List.mem_filter.1 mem
    obtain ⟨low, high, least, most, day, others⟩ := fits x old
    refine ⟨low, high, least, most, day, fun j on => ?_⟩
    have named : ({ s.modSlot i (fun x => { x with enabled := true }) with
      strays := s.strays.filter (fun x => decide (x.identifier ≠ (s.slot i).identifier)) } : State).slot j =
        (s.modSlot i (fun x => { x with enabled := true })).slot j := rfl
    rw [named] at on ⊢
    rw [identifier]
    by_cases at_ : j = i
    · rw [at_]; exact (of_decide_eq_true apart).symm
    · exact others j (wasOn at_ on)

/-- An enabled slot is bound (R21). -/
theorem Slot.Consistent.bound_of_enabled {sl : Slot} (h : sl.Consistent) (on : sl.enabled = true) : sl.identifier ≠ 0 := by
  intro zero
  rw [h.1 zero] at on
  exact nomatch on

theorem DirectoryLaw.move {s t : State} (law : DirectoryLaw s) (move : Move s t) : DirectoryLaw t := by
  rcases move.stores with stores | night
  · cases stores with
    | bound i sl may => exact law.modSlot may.2.2 fun on => nomatch may.2.1.symm.trans on
    | slotEnabled i bound unique => exact law.slotEnabled bound unique
    | slotDisabled i => exact law.modSlot ((law.1 i).withEnabled nofun) nofun
    | straysForgotten =>
      obtain ⟨consistent, unique, -⟩ := law
      exact ⟨consistent, unique, Nat.zero_le _, List.nodup_nil, nofun⟩
    | straySeen identifier day unknown low high now => exact law.straySeen unknown low high now
    | filed i c volume estimated used fits =>
      exact law.modSlot ((law.1 i).filedWith ((law.1 i).bound_of_enabled used) c (((law.1 i).2.2.2.2.2.2 c).offered _ _ fits) _)
        fun on => ⟨on, rfl⟩
    | pressed d c v _ => exact law.of_same rfl rfl
    | modeSet d mode k v _ _ _ => exact law.of_same rfl rfl
    | ringSet d es _ _ _ => exact law.of_same rfl rfl
  · rcases night.slots with same | purged
    · exact law.of_same same night.strays
    · have slot (i : SlotIndex) : t.slot i = (s.slot i).purged := (congrArg (Table.get · i) purged).trans (Table.get_map _ _ i)
      refine law.of_slots (fun i => ?_) (fun i on => ?_) night.strays
      · rw [slot]; exact (law.1 i).purged
      · rw [slot] at on ⊢; exact ⟨on, rfl⟩

/-! ## Pressures (R40, R62, R98) -/

/-- `PressureLaw`, its parts named. -/
structure State.Pressured (s : State) : Prop where
  cells : ∀ d c v, (s.pressure.get d).get c = some v → v ≤ 2000
  held : ∀ d v, (s.district d).heldPressure = some v → v ≤ 2000
  flight : ∀ f, s.flight = some f → ∀ v, some v ∈ f.snapshot.pressure → v ≤ 2000

theorem pressureLaw_iff (s : State) : PressureLaw s ↔ s.Pressured := by
  have parts : PressureLaw s ↔ (∀ d c v, (s.pressure.get d).get c = some v → v ≤ 2000) ∧
      (∀ d v, (s.district d).heldPressure = some v → v ≤ 2000) ∧
      ∀ f, s.flight = some f → ∀ x ∈ f.snapshot.pressure, ∀ v, x = some v → v ≤ 2000 := by
    simp only [PressureLaw, Option.all_eq_true, List.all_eq_true, decide_eq_true_eq]
  rw [parts]
  exact ⟨fun ⟨cells, held, flight⟩ => ⟨cells, held, fun f flown v mem => flight f flown _ mem v rfl⟩,
    fun h => ⟨h.cells, h.held, fun f flown x mem v same => h.flight f flown v (same ▸ mem)⟩⟩

theorem Snapshot.cellPressure_le {sn : Snapshot} (fits : ∀ v, some v ∈ sn.pressure → v ≤ 2000) {v : Nat} (mean : sn.cellPressure = some v) :
    v ≤ 2000 := by
  unfold Snapshot.cellPressure at mean
  dsimp only at mean
  split at mean
  · exact nomatch mean
  · obtain rfl := Option.some.inj mean
    refine mean_le fun x mem => fits x ?_
    obtain ⟨y, there, same⟩ := List.mem_filterMap.1 mem
    exact same ▸ there

theorem State.Pressured.move {s t : State} (h : s.Pressured) (move : Move s t) : t.Pressured := by
  rcases move.stores with stores | night
  · have frame := stores.frame
    refine ⟨?_, fun d v held => h.held d v ?_, fun f flown => h.flight f ?_⟩
    · cases stores with
      | pressed d c v fits =>
        intro e c' x at_
        have row : (s.pressure.modify d (fun t => t.set c (some v))).get e =
            if e = d then (s.pressure.get d).set c (some v) else s.pressure.get e := Table.get_modify _ d e _
        change ((s.pressure.modify d (fun t => t.set c (some v))).get e).get c' = some x at at_
        rw [row] at at_
        split at at_
        · rw [Table.get_set] at at_
          split at at_
          · exact Option.some.inj at_ ▸ fits
          · exact h.cells d c' x at_
        · exact h.cells e c' x at_
      | _ => exact h.cells
    · rw [frame] at held; exact held
    · rw [frame] at flown; exact flown
  · constructor
    case cells =>
      intro d c v at_
      rcases night.pressure with same | emptied
      · rw [same] at at_; exact h.cells d c v at_
      · have row : t.pressure.get d = emptyPressure := (congrArg (Table.get · d) emptied).trans (Table.get_replicate _ d)
        have cell : emptyPressure.get c = none := Table.get_replicate _ c
        rw [row, cell] at at_
        exact nomatch at_
    case held =>
      intro d v holds
      rcases night.held d with same | ⟨f, flown, replaced⟩
      · exact h.held d v (same.symm.trans holds)
      · rcases Option.or_eq_some_iff.1 (replaced.symm.trans holds) with mean | ⟨-, kept⟩
        · exact Snapshot.cellPressure_le (h.flight f flown) mean
        · exact h.held d v kept
    case flight =>
      intro f flown v mem
      rcases night.flight f flown with old | taken
      · exact h.flight f old v mem
      · rw [taken] at mem
        obtain ⟨c, at_⟩ := (Table.mem_iff _ _).1 (List.mem_of_mem_take mem)
        exact h.cells _ c v at_

/-! ## Baseline records (R123, R124, R127) -/

/-- The record keeps to its ranges, its entries in order (R123, R124). -/
abbrev Baseline.InRange (bl : Baseline) : Prop :=
  bl.ring.length ≤ 8 ∧ (bl.ring.map (·.nightDay)).Pairwise (· < ·) ∧
    (∀ e ∈ bl.ring, e.nightDay ≤ 65535 ∧ -2147483648 ≤ e.figure ∧ e.figure ≤ 2147483647) ∧
    1 ≤ bl.rank ∧ bl.rank ≤ 4 ∧ bl.fixed ≤ 16777215

/-- Every entry of a ring in order comes before a night after its last. -/
theorem nightDay_lt_of_last {ring : List RingEntry} {n : Nat} (rises : (ring.map (·.nightDay)).Pairwise (· < ·))
    (last : ring.getLast?.all (fun x => decide (x.nightDay < n)) = true) : ∀ x ∈ ring, x.nightDay < n := by
  intro x mem
  rcases List.eq_nil_or_concat ring with rfl | ⟨front, newest, rfl⟩
  · exact nomatch mem
  · rw [List.concat_eq_append] at rises last mem
    rw [List.getLast?_concat] at last
    have before : newest.nightDay < n := of_decide_eq_true last
    rw [List.map_append, List.pairwise_append] at rises
    rcases List.mem_append.1 mem with old | same
    · exact lt_trans (rises.2.2 _ (List.mem_map_of_mem old) _ (List.mem_singleton.2 rfl)) before
    · rw [List.mem_singleton.1 same]; exact before

theorem Baseline.InRange.learned {bl : Baseline} (h : bl.InRange) {n : Nat} {c : Int} (night : n ≤ 65535) (low : -2147483648 ≤ c)
    (high : c ≤ 2147483647) (last : bl.ring.getLast?.all (fun x => decide (x.nightDay < n)) = true) :
    Baseline.InRange { bl with ring := ringAppend bl.ring ⟨n, c⟩ } := by
  obtain ⟨few, rises, fits, rank⟩ := h
  have shape : ∃ kept, ringAppend bl.ring ⟨n, c⟩ = kept ++ [⟨n, c⟩] ∧ kept.Sublist bl.ring ∧ kept.length ≤ 7 := by
    unfold ringAppend
    by_cases room : bl.ring.length < 8
    · rw [if_pos room]; exact ⟨_, rfl, List.Sublist.refl _, by omega⟩
    · rw [if_neg room]; exact ⟨_, rfl, List.drop_sublist 1 _, by rw [List.length_drop]; omega⟩
  obtain ⟨kept, appended, sub, room⟩ := shape
  refine ⟨?_, ?_, fun e mem => ?_, rank⟩
  · rw [appended, List.length_append]
    exact Nat.succ_le_succ room
  · rw [appended, List.map_append]
    refine List.pairwise_append.2 ⟨rises.sublist (sub.map _), List.pairwise_singleton _ _, fun a old b new => ?_⟩
    obtain ⟨x, there, rfl⟩ := List.mem_map.1 old
    rw [List.mem_singleton.1 new]
    exact nightDay_lt_of_last rises last x (sub.subset there)
  · rw [appended] at mem
    rcases List.mem_append.1 mem with old | new
    · exact fits e (sub.subset old)
    · rw [List.mem_singleton.1 new]; exact ⟨night, low, high⟩

/-- The baseline records in range, and the night days that may come to stand in them. -/
structure State.Baselined (s : State) : Prop where
  rings : ∀ d, (s.baseline d).InRange
  night : ∀ n, s.nck.nightDay = some n → n ≤ 65535
  flight : ∀ f, s.flight = some f → f.snapshot.nightDay ≤ 65535

theorem State.Baselined.modBaseline {s : State} (h : s.Baselined) {d : District} {f : Baseline → Baseline} (fits : (f (s.baseline d)).InRange) :
    (s.modBaseline d f).Baselined :=
  ⟨fun e => by
    rw [State.baseline_modBaseline]
    split
    · exact fits
    · exact h.rings e, h.night, h.flight⟩

theorem State.Baselined.move {s t : State} (h : s.Baselined) (move : Move s t) : t.Baselined := by
  rcases move.stores with stores | night
  · cases stores with
    | modeSet d mode k v low high fits =>
      obtain ⟨few, rises, entries, -⟩ := h.rings d
      exact h.modBaseline ⟨few, rises, entries, low, high, fits⟩
    | ringSet d es few rises fits =>
      obtain ⟨-, -, -, rank⟩ := h.rings d
      exact h.modBaseline ⟨few, rises, fits, rank⟩
    | _ => exact ⟨h.rings, h.night, h.flight⟩
  · refine ⟨fun d => ?_, fun n opened => ?_, fun f flown => ?_⟩
    · rcases night.baseline d with same | ⟨f, flown, last, learned⟩
      · rw [same]; exact h.rings d
      · have figure := clampInt_mem (lo := int32Min) (hi := int32Max) (by decide) f.snapshot.correctedRaw
        rw [learned]
        exact (h.rings d).learned (h.flight f flown) figure.1 figure.2 last
    · rcases night.day n opened with old | fits
      · exact h.night n old
      · exact fits
    · rcases night.flight f flown with old | taken
      · exact h.flight f old
      · rw [taken]
        change s.nck.nightDay.getD 0 ≤ 65535
        rcases Option.eq_none_or_eq_some s.nck.nightDay with none_ | ⟨n, day⟩
        · rw [none_]; exact Nat.zero_le _
        · rw [day]; exact h.night n day

/-- The night days of a lawful clock and of a dated flight are days of the calendar. -/
theorem baselined_of_law {s : State} (clock : ClockLaw s) (result : ResultLaw s) (ring : RingLaw s) : s.Baselined := by
  obtain ⟨-, -, -, -, -, -, -, -, -, -, -, calendar, -⟩ := clock
  have night (n : Nat) (day : s.nck.nightDay = some n) : n ≤ 65535 := by
    rw [day] at calendar
    exact of_decide_eq_true calendar
  refine ⟨ring, night, fun f flown => night _ ?_⟩
  have flight := result.2.2
  rw [flown] at flight
  exact of_decide_eq_true flight

/-- Settles O60, by the elementary changes that a step is made of. -/
theorem stepsKeepTheStores : Obligations.StepsKeepTheStores := by
  intro s t moves clock result directory ring pressure
  obtain ⟨directory', baselines, pressures⟩ := kept_of_step (P := fun u => DirectoryLaw u ∧ u.Baselined ∧ u.Pressured)
    (fun strap => ⟨afterReset_directoryLaw strap,
      baselined_of_law (afterReset_clockLaw strap) (afterReset_resultLaw strap) (afterReset_ringLaw strap),
      (pressureLaw_iff _).1 (afterReset_pressureLaw strap)⟩)
    (fun u v move ⟨directory, baselines, pressures⟩ => ⟨directory.move move, baselines.move move, pressures.move move⟩)
    moves clock ⟨directory, baselined_of_law clock result ring, (pressureLaw_iff s).1 pressure⟩
  exact ⟨directory', baselines.rings, (pressureLaw_iff t).2 pressures⟩

end Sys2Proof.Machine
end

section
/-!
PROOF. The counts and the alert that stand beside a watch state stay so through every result, re-judge and alert request (R137, R138, R142 to
R149, R151, R153).
-/

namespace Sys2Proof.Machine

/-- An alert that a watch which is not ALERTED may have (R137). -/
abbrev Alert.Calm (a : Alert) : Prop := a = .none ∨ a = .dataLoss ∨ a = .cleared

/-- An alert of an excess (R137). -/
abbrev Alert.Alarm (a : Alert) : Prop := a = .rising ∨ a = .burst

theorem Alert.Calm.afterUsable {a : Alert} (calm : a.Calm) : a.afterUsable.Calm := by
  rcases calm with rfl | rfl | rfl
  · exact .inl rfl
  · exact .inr (.inr rfl)
  · exact .inr (.inr rfl)

theorem Alert.Alarm.afterUsable {a : Alert} (alarm : a.Alarm) : a.afterUsable.Alarm := by
  rcases alarm with rfl | rfl
  · exact .inl rfl
  · exact .inr rfl

section
variable {n e g : Nat} {a : Alert}

theorem watchConsistent_out (n : Nat) : WatchConsistent n ⟨.out, 0, 0, .none⟩ :=
  ⟨Nat.zero_le _, fun _ => ⟨rfl, rfl, rfl⟩, fun _ => rfl, by simp, Nat.zero_le _, by simp, by simp⟩

theorem watchConsistent_learning (gap : g ≤ 255) (calm : a.Calm) : WatchConsistent n ⟨.learning, 0, g, a⟩ :=
  ⟨gap, nofun, fun _ => rfl, by simp, Nat.zero_le _, fun _ => calm, by simp⟩

theorem watchConsistent_quiet (gap : g ≤ 255) (calm : a.Calm) : WatchConsistent n ⟨.quiet, 0, g, a⟩ :=
  ⟨gap, nofun, fun _ => rfl, by simp, Nat.zero_le _, fun _ => calm, by simp⟩

theorem watchConsistent_watch (gap : g ≤ 255) (low : 1 ≤ e) (high : e ≤ n) (calm : a.Calm) : WatchConsistent n ⟨.watch, e, g, a⟩ :=
  ⟨gap, nofun, by simp, fun _ => low, high, fun _ => calm, by simp⟩

theorem watchConsistent_alerted (gap : g ≤ 255) (low : 1 ≤ e) (high : e ≤ n) (alarm : a.Alarm) : WatchConsistent n ⟨.alerted, e, g, a⟩ :=
  ⟨gap, nofun, by simp, fun _ => low, high, by simp, fun _ => alarm⟩

theorem watchConsistent_acknowledged (gap : g ≤ 255) (high : e ≤ n) (alarm : a.Alarm) : WatchConsistent n ⟨.acknowledged, e, g, a⟩ :=
  ⟨gap, nofun, by simp, by simp, high, by simp, fun _ => alarm⟩

end

/-- The watch states that a lawful watch may be in, with what stands beside each (R137). -/
theorem WatchConsistent.cases {n : Nat} {w : Watch} (h : WatchConsistent n w) :
    w = ⟨.out, 0, 0, .none⟩ ∨
    (∃ g a, w = ⟨.learning, 0, g, a⟩ ∧ g ≤ 255 ∧ Alert.Calm a) ∨
    (∃ g a, w = ⟨.quiet, 0, g, a⟩ ∧ g ≤ 255 ∧ Alert.Calm a) ∨
    (∃ e g a, w = ⟨.watch, e, g, a⟩ ∧ g ≤ 255 ∧ 1 ≤ e ∧ e ≤ n ∧ Alert.Calm a) ∨
    (∃ e g a, w = ⟨.alerted, e, g, a⟩ ∧ g ≤ 255 ∧ 1 ≤ e ∧ e ≤ n ∧ Alert.Alarm a) ∨
    (∃ e g a, w = ⟨.acknowledged, e, g, a⟩ ∧ g ≤ 255 ∧ e ≤ n ∧ Alert.Alarm a) := by
  obtain ⟨gap, out, zero, positive, most, calm, alarm⟩ := h
  obtain ⟨stage, e, g, a⟩ := w
  cases stage with
  | out =>
    obtain ⟨rfl, rfl, rfl⟩ := out rfl
    exact .inl rfl
  | learning =>
    obtain rfl := zero (.inl rfl)
    exact .inr (.inl ⟨g, a, rfl, gap, calm (.inl rfl)⟩)
  | quiet =>
    obtain rfl := zero (.inr rfl)
    exact .inr (.inr (.inl ⟨g, a, rfl, gap, calm (.inr (.inl rfl))⟩))
  | watch => exact .inr (.inr (.inr (.inl ⟨e, g, a, rfl, gap, positive (.inl rfl), most, calm (.inr (.inr rfl))⟩)))
  | alerted => exact .inr (.inr (.inr (.inr (.inl ⟨e, g, a, rfl, gap, positive (.inr rfl), most, alarm (.inl rfl)⟩))))
  | acknowledged => exact .inr (.inr (.inr (.inr (.inr ⟨e, g, a, rfl, gap, most, alarm (.inr rfl)⟩))))

namespace WatchConsistent

section
variable {n : Nat} {w : Watch} (h : WatchConsistent n w)
include h

/-- Another gap count, and another alert of the same sort, keep a watch in service lawful. -/
theorem regapped (served : w.state ≠ .out) {g : Nat} {a : Alert} (gap : g ≤ 255) (calm : w.alert.Calm → a.Calm) (alarm : w.alert.Alarm → a.Alarm) :
    WatchConsistent n { w with gap := g, alert := a } := by
  obtain ⟨-, -, zero, positive, most, calm', alarm'⟩ := h
  exact ⟨gap, fun out => absurd out served, zero, positive, most, fun stage => calm (calm' stage), fun stage => alarm (alarm' stage)⟩

/-- A CLEARED alert may give way to none (R142). -/
theorem ended (cleared : w.alert = .cleared) : WatchConsistent n { w with alert := .none } := by
  have served : w.state ≠ .out := fun out => by
    have gone := (h.2.1 out).2.2
    rw [cleared] at gone; exact nomatch gone
  exact h.regapped served h.1 (fun _ => .inl rfl) fun alarm => by
    rw [cleared] at alarm
    rcases alarm with x | x <;> exact nomatch x

/-- An acknowledged DATA_LOSS is none (R151). -/
theorem lossAcknowledged (lost : w.alert = .dataLoss) : WatchConsistent n { w with alert := .none } := by
  have served : w.state ≠ .out := fun out => by
    have gone := (h.2.1 out).2.2
    rw [lost] at gone; exact nomatch gone
  exact h.regapped served h.1 (fun _ => .inl rfl) fun alarm => by
    rw [lost] at alarm
    rcases alarm with x | x <;> exact nomatch x

theorem acknowledged (alerted : w.state = .alerted) : WatchConsistent n { w with state := .acknowledged } := by
  obtain ⟨gap, -, -, -, most, -, alarm⟩ := h
  exact watchConsistent_acknowledged gap most (alarm (.inl alerted))

/-- A repaired watch starts again with no excess, its alert CLEARED (R153). -/
theorem repaired (ready : Bool) : WatchConsistent n { w.repaired ready with alert := .cleared } := by
  cases ready with
  | true => exact watchConsistent_quiet h.1 (.inr (.inr rfl))
  | false => exact watchConsistent_learning h.1 (.inr (.inr rfl))

theorem rejudged (ready : Bool) : WatchConsistent n (w.rejudge ready) := by
  rcases h.cases with rfl | ⟨g, a, rfl, gap, calm⟩ | ⟨g, a, rfl, gap, calm⟩ | ⟨e, g, a, rfl, gap, low, high, calm⟩ | ⟨e, g, a, rfl, -⟩ |
    ⟨e, g, a, rfl, -⟩
  · exact h
  · cases ready with
    | true => exact watchConsistent_quiet gap calm
    | false => exact h
  · cases ready with
    | true => exact h
    | false => exact watchConsistent_learning gap calm
  · cases ready with
    | true => exact h
    | false => exact watchConsistent_learning gap calm
  · exact h
  · exact h

/-- An excess count above a new N_confirm falls to it (R67). -/
theorem reconfirmed {m : Nat} (confirm : 1 ≤ m) : WatchConsistent m { w with excess := min w.excess m } := by
  obtain ⟨gap, out, zero, positive, -, calm, alarm⟩ := h
  refine ⟨gap, fun stage => ?_, fun stage => ?_, fun stage => le_min (positive stage) confirm, min_le_right _ _, calm, alarm⟩
  · obtain ⟨e, g, a⟩ := out stage
    exact ⟨(congrArg (min · m) e).trans (Nat.zero_min m), g, a⟩
  · exact (congrArg (min · m) (zero stage)).trans (Nat.zero_min m)

end

section
variable {ps : Params} {w : Watch} (h : WatchConsistent ps.nConfirm w) (served : w.state ≠ .out)
include h served

theorem afterGap : WatchConsistent ps.nConfirm (w.afterGap ps.gapLimit) := by
  rw [Watch.afterGap_eq]
  refine h.regapped served (min_le_left _ _) (fun calm => ?_) fun alarm => ?_
  · split
    · exact .inr (.inl rfl)
    · exact calm
  · split
    next raised =>
      rcases alarm with x | x <;> rcases raised.1 with y | y <;> exact nomatch x.symm.trans y
    · exact alarm

theorem afterNone : WatchConsistent ps.nConfirm (w.after ps .clean .none) := by
  obtain ⟨-, -, -, -, -, calm, -⟩ := id h
  rw [Watch.after_none]
  split
  next stage =>
    exact watchConsistent_learning (Nat.zero_le _) (Alert.Calm.afterUsable (calm (stage.elim (fun q => .inr (.inl q)) fun x => .inr (.inr x))))
  · exact h.regapped served (Nat.zero_le _) Alert.Calm.afterUsable Alert.Alarm.afterUsable

theorem afterExcess (confirm : 1 ≤ ps.nConfirm) : WatchConsistent ps.nConfirm (w.after ps .clean .excess) := by
  rw [Watch.after_excess ps served]
  dsimp only
  generalize up_eq : min ps.nConfirm ((if w.state = .learning then 0 else w.excess) + 1) = up
  have most : up ≤ ps.nConfirm := up_eq ▸ min_le_left _ _
  have least : 1 ≤ up := up_eq ▸ le_min confirm (Nat.le_add_left _ _)
  obtain ⟨-, out, -, -, -, calm, alarm⟩ := h
  split
  next stage =>
    have alarm := Alert.Alarm.afterUsable (alarm stage)
    rcases stage with alerted | acknowledged
    · rw [show w.state = .alerted from alerted]; exact watchConsistent_alerted (Nat.zero_le _) least most alarm
    · rw [show w.state = .acknowledged from acknowledged]; exact watchConsistent_acknowledged (Nat.zero_le _) most alarm
  next stage =>
    split
    · exact watchConsistent_alerted (Nat.zero_le _) least most (.inl rfl)
    · refine watchConsistent_watch (Nat.zero_le _) least most (Alert.Calm.afterUsable (calm ?_))
      cases at_ : w.state with
      | out => exact absurd at_ served
      | learning => exact .inl rfl
      | quiet => exact .inr (.inl rfl)
      | watch => exact .inr (.inr rfl)
      | alerted => exact absurd (.inl at_) stage
      | acknowledged => exact absurd (.inr at_) stage

theorem afterNormal : WatchConsistent ps.nConfirm (w.after ps .clean .normal) := by
  rw [Watch.after_normal ps served]
  rcases h.cases with rfl | ⟨g, a, rfl, gap, calm⟩ | ⟨g, a, rfl, gap, calm⟩ | ⟨e, g, a, rfl, gap, low, high, calm⟩ |
    ⟨e, g, a, rfl, gap, low, high, alarm⟩ | ⟨e, g, a, rfl, gap, high, alarm⟩
  · exact absurd rfl served
  · exact watchConsistent_quiet (Nat.zero_le _) calm.afterUsable
  · exact watchConsistent_quiet (Nat.zero_le _) calm.afterUsable
  · by_cases last : e - 1 = 0
    · simp only [reduceCtorEq, if_false, last, ne_eq, not_true, and_false]
      exact watchConsistent_quiet (Nat.zero_le _) calm.afterUsable
    · simp only [reduceCtorEq, if_false, last, ne_eq, not_false_eq_true, and_self, if_true]
      exact watchConsistent_watch (Nat.zero_le _) (Nat.pos_of_ne_zero last) (by omega) calm.afterUsable
  · by_cases last : e - 1 = 0
    · simp only [reduceCtorEq, if_false, last, if_true]
      exact watchConsistent_quiet (Nat.zero_le _) (.inr (.inr rfl))
    · simp only [reduceCtorEq, if_false, last, if_true]
      exact watchConsistent_alerted (Nat.zero_le _) (Nat.pos_of_ne_zero last) (by omega) alarm.afterUsable
  · exact watchConsistent_acknowledged (Nat.zero_le _) (le_trans (Nat.sub_le _ _) high) alarm.afterUsable

/-- A result leaves the watch of a district in service lawful (R143 to R149). -/
theorem after (confirm : 1 ≤ ps.nConfirm) (st : ResultStatus) (v : Verdict) : WatchConsistent ps.nConfirm (w.after ps st v) := by
  have usable : WatchConsistent ps.nConfirm (w.after ps .clean v) := by
    cases v with
    | none => exact h.afterNone served
    | normal => exact h.afterNormal served
    | excess => exact h.afterExcess served confirm
    | burst =>
      rw [Watch.after_burst ps served]
      exact watchConsistent_alerted (Nat.zero_le _) confirm (le_refl _) (.inr rfl)
  cases st with
  | clean => exact usable
  | patched => exact usable
  | unusable => exact h.afterGap served
  | skipped => exact h.afterGap served

end

end WatchConsistent

/-- No result takes a watch out of service, or into it. -/
theorem Watch.after_served (ps : Params) (st : ResultStatus) (v : Verdict) {w : Watch} (served : w.state ≠ .out) :
    (w.after ps st v).state ≠ .out := by
  have usable : (w.after ps .clean v).state ≠ .out := by
    cases v with
    | none =>
      rw [Watch.after_none]
      split
      · nofun
      · exact served
    | normal =>
      rw [Watch.after_normal ps served]
      dsimp only
      generalize (if w.state = .learning then 0 else w.excess) - 1 = down
      split
      · exact served
      · split
        · split
          · nofun
          · exact served
        · change (if w.state = .watch ∧ down ≠ 0 then WatchState.watch else .quiet) ≠ .out
          split <;> nofun
    | excess =>
      rw [Watch.after_excess ps served]
      dsimp only
      generalize min ps.nConfirm _ = up
      split_ifs
      · exact served
      · nofun
      · nofun
    | burst => rw [Watch.after_burst ps served]; nofun
  cases st with
  | clean => exact usable
  | patched => exact usable
  | unusable => exact served
  | skipped => exact served

end Sys2Proof.Machine
end

section
/-!
PROOF. Districts, watches and notices stay lawful through every elementary change (R63, R72, R137, R138, R142, R164).
-/

namespace Sys2Proof.Machine

/-- The laws of districts, watches and notices, the watch of district `x` and what is told of it left out. -/
structure State.WatchedBut (x : Option District) (s : State) : Prop where
  params : ∀ d, ParamsInRange s.nck.wlen (s.district d).params
  holds : ∀ d h, (s.district d).hold = some h → h.expiry.day ≤ 65536 ∧ h.expiry.minute ≤ 1439
  service : ∀ d, (s.district d).inService = false → (s.district d).nightState = .idle
  watch : ∀ d, x ≠ some d → WatchConsistent (s.district d).params.nConfirm (s.watch d)
  out : ∀ d, x ≠ some d → ((s.watch d).state = .out ↔ (s.district d).inService = false)
  cleared : ∀ d, x ≠ some d → (s.watch d).alert = .cleared → ∃ p : Position, (s.station p).pendingSet.has d = true
  subscribed : ∀ p d, (s.station p).pendingSet.has d = true → (s.station p).role ≠ none ∧ (s.station p).subscription.has d = true
  told : ∀ p d, x ≠ some d → (s.station p).pendingSet.has d = true → (s.watch d).alert ≠ .none

/-- The laws of districts, watches and notices. -/
abbrev State.Watched (s : State) : Prop := State.WatchedBut none s

theorem watched_iff {s : State} (service : ∀ d, (s.district d).inService = false → (s.district d).nightState = .idle) :
    s.Watched ↔ DistrictLaw s ∧ WatchLaw s ∧ NoticeLaw s := by
  have range (d : District) : (s.district d).hold.all (fun h => decide (h.expiry.day ≤ 65536) && decide (h.expiry.minute ≤ 1439)) = true ↔
      ∀ h, (s.district d).hold = some h → h.expiry.day ≤ 65536 ∧ h.expiry.minute ≤ 1439 := by
    simp only [Option.all_eq_true, Bool.and_eq_true, decide_eq_true_eq]
  constructor
  · intro h
    exact ⟨fun d => ⟨h.params d, (range d).2 (h.holds d)⟩, fun d => ⟨h.watch d nofun, h.out d nofun⟩, fun d => h.cleared d nofun,
      fun p d pending => ⟨(h.subscribed p d pending).1, (h.subscribed p d pending).2, h.told p d nofun pending⟩⟩
  · rintro ⟨districts, watches, cleared, pending⟩
    exact ⟨fun d => (districts d).1, fun d => (range d).1 (districts d).2, service, fun d _ => (watches d).1, fun d _ => (watches d).2,
      fun d _ => cleared d, fun p d has => ⟨(pending p d has).1, (pending p d has).2.1⟩, fun p d _ has => (pending p d has).2.2⟩

namespace State.WatchedBut

section
variable {x : Option District} {s t : State}

theorem loosen (h : s.Watched) : s.WatchedBut x where
  params := h.params
  holds := h.holds
  service := h.service
  watch d _ := h.watch d nofun
  out d _ := h.out d nofun
  cleared d _ := h.cleared d nofun
  subscribed := h.subscribed
  told p d _ := h.told p d nofun

/-- A change that leaves the watches and what stations hold pending, and every district's parameters and service. -/
theorem frame (h : s.WatchedBut x) (wlen : t.nck.wlen = s.nck.wlen) (watch : ∀ d, t.watch d = s.watch d)
    (station : ∀ p, t.station p = { s.station p with eventMask := (t.station p).eventMask, flags := (t.station p).flags })
    (params : ∀ d, (t.district d).params = (s.district d).params) (inService : ∀ d, (t.district d).inService = (s.district d).inService)
    (holds : ∀ d e, (t.district d).hold = some e → (s.district d).hold = some e ∨ (e.expiry.day ≤ 65536 ∧ e.expiry.minute ≤ 1439))
    (service : ∀ d, (t.district d).inService = false → (t.district d).nightState = .idle) : t.WatchedBut x := by
  have pendingSet (p : Position) : (t.station p).pendingSet = (s.station p).pendingSet := by rw [station]
  have role (p : Position) : (t.station p).role = (s.station p).role := by rw [station]
  have subscription (p : Position) : (t.station p).subscription = (s.station p).subscription := by rw [station]
  constructor
  case params => intro d; rw [wlen, params]; exact h.params d
  case holds => exact fun d e held => (holds d e held).elim (h.holds d e) id
  case service => exact service
  case watch => intro d other; rw [watch, params]; exact h.watch d other
  case out => intro d other; rw [watch, inService]; exact h.out d other
  case cleared => intro d other; rw [watch]; simp only [pendingSet]; exact h.cleared d other
  case subscribed => intro p d; rw [pendingSet, role, subscription]; exact h.subscribed p d
  case told => intro p d other; rw [pendingSet, watch]; exact h.told p d other

/-- The same in what the laws read of the state but the districts' night. -/
theorem same_districts (h : s.WatchedBut x) (wlen : t.nck.wlen = s.nck.wlen) (watches : t.watches = s.watches)
    (stations : t.stations = s.stations) (districts : t.districts = s.districts) : t.WatchedBut x := by
  have district (d : District) : t.district d = s.district d := congrArg (Table.get · d) districts
  have station (p : Position) : t.station p = s.station p := congrArg (Table.get · p) stations
  refine h.frame wlen (fun d => congrArg (Table.get · d) watches) (fun p => by rw [station]) (fun d => by rw [district])
    (fun d => by rw [district]) (fun d e held => .inl (by rwa [district] at held)) fun d out => ?_
  rw [district] at out ⊢
  exact h.service d out

/-- One district's record rewritten, its parameters and service kept. -/
theorem modDistrict (h : s.WatchedBut x) {d : District} {f : DistrictRecord → DistrictRecord}
    (params : (f (s.district d)).params = (s.district d).params) (inService : (f (s.district d)).inService = (s.district d).inService)
    (holds : ∀ e, (f (s.district d)).hold = some e → (s.district d).hold = some e ∨ (e.expiry.day ≤ 65536 ∧ e.expiry.minute ≤ 1439))
    (service : (s.district d).inService = false → (f (s.district d)).nightState = .idle) : (s.modDistrict d f).WatchedBut x := by
  have district (e : District) := s.district_modDistrict d e f
  refine h.frame rfl (fun _ => rfl) (fun _ => rfl) (fun e => ?_) (fun e => ?_) (fun e held at_ => ?_) fun e out => ?_
  · rw [district]; split
    next here => rw [params, here]
    · rfl
  · rw [district]; split
    next here => rw [inService, here]
    · rfl
  · rw [district] at at_
    split at at_
    next here => subst here; exact holds held at_
    · exact .inl at_
  · rw [district] at out ⊢
    split
    next here => rw [if_pos here, inService] at out; exact service out
    next other => rw [if_neg other] at out; exact h.service e out

theorem raiseAt (h : s.WatchedBut x) (f : EventFlag) (p : Position) : (s.raiseAt f p).WatchedBut x := by
  have station (q : Position) : (s.raiseAt f p).station q =
      { s.station q with eventMask := ((s.raiseAt f p).station q).eventMask, flags := ((s.raiseAt f p).station q).flags } := by
    rw [State.raiseAt_station]; split <;> rfl
  have frame := s.raiseAt_frame f p
  generalize s.raiseAt f p = t at station frame ⊢
  rw [frame] at station ⊢
  exact h.frame rfl (fun _ => rfl) station (fun _ => rfl) (fun _ => rfl) (fun _ _ => .inl) h.service

theorem raiseAll (h : s.WatchedBut x) (f : EventFlag) : (s.raiseAll f).WatchedBut x := by
  unfold State.raiseAll
  exact List.foldlRecOn allPositions _ h fun u lawful p _ => lawful.raiseAt f p

/-! ## One watch rewritten -/

/-- The watch left out is brought back to the laws, its alert as it was told or not told before. -/
theorem rewatch {d : District} (h : s.WatchedBut (some d)) {f : Watch → Watch}
    (watch : WatchConsistent (s.district d).params.nConfirm (f (s.watch d)))
    (out : (f (s.watch d)).state = .out ↔ (s.district d).inService = false)
    (cleared : (f (s.watch d)).alert = .cleared → ∃ p : Position, (s.station p).pendingSet.has d = true)
    (told : ∀ p : Position, (s.station p).pendingSet.has d = true → (f (s.watch d)).alert ≠ .none) : (s.modWatch d f).Watched := by
  have at_ (e : District) := s.watch_modWatch d e f
  refine { h with watch := fun e _ => ?_, out := fun e _ => ?_, cleared := fun e _ => ?_, told := fun p e _ => ?_ }
  · rw [at_]
    split
    next here => subst here; exact watch
    next other => exact h.watch e fun same => other (Option.some.inj same).symm
  · rw [at_]
    split
    next here => subst here; exact out
    next other => exact h.out e fun same => other (Option.some.inj same).symm
  · rw [at_]
    split
    next here => subst here; exact cleared
    next other => exact h.cleared e fun same => other (Option.some.inj same).symm
  · rw [at_]
    split
    next here => subst here; exact told p
    next other => exact h.told p e fun same => other (Option.some.inj same).symm

/-- Any rewriting of the watch left out. -/
theorem modWatch {d : District} (h : s.WatchedBut (some d)) (f : Watch → Watch) : (s.modWatch d f).WatchedBut (some d) := by
  have at_ {e : District} (other : some d ≠ some e) : (s.modWatch d f).watch e = s.watch e :=
    s.watch_modWatch_ne f fun here => other (congrArg some here).symm
  exact { h with
    watch := fun e other => by rw [at_ other]; exact h.watch e other
    out := fun e other => by rw [at_ other]; exact h.out e other
    cleared := fun e other => by rw [at_ other]; exact h.cleared e other
    told := fun p e other => by rw [at_ other]; exact h.told p e other }

/-- A watch rewritten with the alert it had. -/
theorem modWatch_alert (h : s.Watched) {d : District} {f : Watch → Watch}
    (watch : WatchConsistent (s.district d).params.nConfirm (f (s.watch d)))
    (out : (f (s.watch d)).state = .out ↔ (s.watch d).state = .out) (alert : (f (s.watch d)).alert = (s.watch d).alert) :
    (s.modWatch d f).Watched :=
  h.loosen.rewatch watch (out.trans (h.out d nofun)) (fun c => h.cleared d nofun (alert.symm.trans c)) fun p pending => by
    rw [alert]; exact h.told p d nofun pending

/-- R142 brings a watch back to the laws whose alert is told wherever it is pending. -/
theorem endCleared {d : District} (h : s.WatchedBut (some d)) (watch : WatchConsistent (s.district d).params.nConfirm (s.watch d))
    (out : (s.watch d).state = .out ↔ (s.district d).inService = false)
    (told : ∀ p : Position, (s.station p).pendingSet.has d = true → (s.watch d).alert ≠ .none) : (s.endCleared d).Watched := by
  rw [State.endCleared_eq]
  refine same_districts (s := s.modWatch d (fun w => { w with alert := if s.ClearedEnds d then .none else w.alert })) ?_ rfl rfl rfl rfl
  by_cases ends : s.ClearedEnds d
  · simp only [if_pos ends]
    refine h.rewatch (watch.ended ends.1) out nofun fun p pending => ?_
    rw [ends.2 p] at pending; exact nomatch pending
  · simp only [if_neg ends]
    refine h.rewatch watch out (fun cleared => ?_) told
    by_contra none_
    exact ends ⟨cleared, fun p => Bool.eq_false_iff.2 fun pending => none_ ⟨p, pending⟩⟩

/-- An alert handed over leaves the district pending only where its kind is wanted, so that no alert NONE is pending (R164). -/
theorem handOver {d : District} (h : s.WatchedBut (some d)) (a : Alert) :
    (s.handOver d a).WatchedBut (some d) ∧ ∀ p : Position, ((s.handOver d a).station p).pendingSet.has d = true → a ≠ .none := by
  have station := s.station_handOver d a
  have frame (p : Position) := Station.afterAlert_frame d a (s.station p)
  have has (p : Position) (e : District) := Station.has_afterAlert_of_subscribed (h.subscribed p d) a e
  have elsewhere (p : Position) {e : District} (other : some d ≠ some e) :
      ((s.handOver d a).station p).pendingSet.has e = (s.station p).pendingSet.has e := by
    rw [station, has, if_neg fun here => other (congrArg some here).symm]
  constructor
  · refine { h with cleared := fun e other => ?_, subscribed := fun p e pending => ?_, told := fun p e other => ?_ }
    · simp only [elsewhere _ other]; exact h.cleared e other
    · rw [station] at pending ⊢
      rw [frame p]
      rw [has] at pending
      split at pending
      next here =>
        subst here
        simp only [Bool.and_eq_true, decide_eq_true_eq] at pending
        exact pending.1
      · exact h.subscribed p e pending
    · rw [elsewhere p other]; exact h.told p e other
  · intro p pending
    rw [station, has, if_pos rfl] at pending
    rintro rfl
    simp [Alert.inMask] at pending

/-- An alert change told to the stations brings its watch back to the laws. -/
theorem alertChanged {d : District} (h : s.WatchedBut (some d)) (watch : WatchConsistent (s.district d).params.nConfirm (s.watch d))
    (out : (s.watch d).state = .out ↔ (s.district d).inService = false) : (s.alertChanged d).Watched := by
  obtain ⟨handed, told⟩ := h.handOver (s.watch d).alert
  exact handed.endCleared watch out told

/-- A watch rewritten and its alert then changed, by a request (R141). -/
theorem changeAlert {d : District} (h : s.WatchedBut (some d)) {f : Watch → Watch} {a : Alert}
    (watch : WatchConsistent (s.district d).params.nConfirm { f (s.watch d) with alert := a })
    (out : (f (s.watch d)).state = .out ↔ (s.district d).inService = false)
    (kept : (f (s.watch d)).alert = a → (a = .cleared → ∃ p : Position, (s.station p).pendingSet.has d = true) ∧
      ∀ p : Position, (s.station p).pendingSet.has d = true → a ≠ .none) : ((s.modWatch d f).changeAlert d a).Watched := by
  have at_ := s.watch_modWatch_self d f
  unfold State.changeAlert
  rw [at_]
  split
  next same =>
    obtain ⟨cleared, told⟩ := kept same
    have eta : { f (s.watch d) with alert := a } = f (s.watch d) := by rw [← same]
    rw [eta] at watch
    exact h.rewatch watch out (fun c => cleared (same.symm.trans c)) fun p pending => by rw [same]; exact told p pending
  · rw [State.setAlert, State.modWatch_modWatch]
    refine (h.modWatch _).alertChanged ?_ ?_
    · rw [State.watch_modWatch_self]; exact watch
    · rw [State.watch_modWatch_self]; exact out

/-- A result applied to the watch of a district in service (R141, R143). -/
theorem applyResult (h : s.Watched) {d : District} (served : (s.district d).inService = true) (st : ResultStatus) (v : Verdict) :
    (s.applyResult d st v).Watched := by
  have in_ : (s.watch d).state ≠ .out := fun out => by
    have gone := (h.out d nofun).1 out
    rw [served] at gone; exact nomatch gone
  obtain ⟨-, -, -, -, -, -, -, -, -, -, -, confirm, -⟩ := h.params d
  have watch := (h.watch d nofun).after in_ confirm st v
  have still : ((s.watch d).after (s.district d).params st v).state ≠ .out := Watch.after_served _ st v in_
  unfold State.applyResult
  dsimp only
  generalize (s.watch d).after (s.district d).params st v = w' at watch still
  split
  · refine (loosen h).modWatch (fun _ => w') |>.alertChanged ?_ ?_
    · rw [State.watch_modWatch_self]; exact watch
    · rw [State.watch_modWatch_self]
      exact iff_of_false still fun out => nomatch out.symm.trans served
  next silent =>
    have alert : w'.alert = (s.watch d).alert := by
      unfold alertHanded at silent
      simp only [Bool.or_eq_true, not_or, decide_eq_true_eq, not_not] at silent
      exact silent.1
    exact h.modWatch_alert watch (iff_of_false still in_) alert

theorem publishSkipped (h : s.Watched) {d : District} (served : (s.district d).inService = true) (n : Nat) (why : Reason) :
    (s.publishSkipped d n why).Watched := by
  rw [State.publishSkipped_eq]
  have recorded : (s.modDistrict d (DistrictRecord.skipped n why)).Watched :=
    h.modDistrict rfl rfl (fun _ => .inl) fun out => nomatch out.symm.trans served
  refine recorded.applyResult ?_ .skipped .none
  rw [State.district_modDistrict_self]
  exact served

end

end State.WatchedBut

end Sys2Proof.Machine
end

section
/-!
PROOF. Each elementary change keeps the laws of districts, watches and notices (R6, R7, R17, R67, R69, R70, R89, R133, R151, R153, R162, R167).
-/

namespace Sys2Proof.Machine

namespace State.WatchedBut

section
variable {s t : State} (h : s.Watched)
include h

theorem of_bare (same : s.bare = t.bare) : t.Watched := by
  have wlen := congrArg (fun u : State => u.nck.wlen) same.symm
  have watches := congrArg State.watches same.symm
  have stations := congrArg State.stations same.symm
  have districts := congrArg State.districts same.symm
  exact h.same_districts wlen watches stations districts

theorem stores (change : StoreChange s t) : t.Watched := by
  rw [change.frame]
  exact h.same_districts rfl rfl rfl rfl

/-! ## Watches and requests -/

theorem delivered (p : Position) (d : District) : ((s.dropPending p d).endCleared d).Watched := by
  have station (q : Position) := s.station_modStation p q (fun st => { st with pendingSet := st.pendingSet.remove d })
  have has {q : Position} {e : District} (pending : ((s.dropPending p d).station q).pendingSet.has e = true) :
      (s.station q).pendingSet.has e = true := by
    unfold State.dropPending at pending
    rw [station] at pending
    split at pending
    next here =>
      subst here
      rw [DistrictSet.has_remove, Bool.and_eq_true] at pending
      exact pending.1
    · exact pending
  have elsewhere (q : Position) {e : District} (other : some d ≠ some e) :
      ((s.dropPending p d).station q).pendingSet.has e = (s.station q).pendingSet.has e := by
    unfold State.dropPending
    rw [station]
    split
    next here =>
      subst here
      have ne : e ≠ d := fun same => other (congrArg some same).symm
      rw [DistrictSet.has_remove, decide_eq_true ne, Bool.and_true]
    · rfl
  have entry (q : Position) : ((s.dropPending p d).station q).role = (s.station q).role ∧
      ((s.dropPending p d).station q).subscription = (s.station q).subscription := by
    unfold State.dropPending
    rw [station]
    split
    next here => subst here; exact ⟨rfl, rfl⟩
    · exact ⟨rfl, rfl⟩
  have loose : (s.dropPending p d).WatchedBut (some d) := { h.loosen with
    cleared := fun e other => by simp only [elsewhere _ other]; exact h.cleared e nofun
    subscribed := fun q e pending => by
      rw [(entry q).1, (entry q).2]
      exact h.subscribed q e (has pending)
    told := fun q e _ pending => h.told q e nofun (has pending) }
  exact loose.endCleared (h.watch d nofun) (h.out d nofun) fun q pending => h.told q d nofun (has pending)

theorem rejudged (d : District) : (s.rejudge d).Watched := by
  have state (ready : Bool) (w : Watch) : ((w.rejudge ready).state = .out ↔ w.state = .out) ∧ (w.rejudge ready).alert = w.alert := by
    unfold Watch.rejudge
    cases stage : w.state <;> cases ready <;> simp [stage]
  exact h.modWatch_alert ((h.watch d nofun).rejudged _) (state _ _).1 (state _ _).2

theorem acknowledged {d : District} (may : (s.watch d).state = .alerted ∨ (s.watch d).alert = .dataLoss) : (s.acknowledge d).Watched := by
  by_cases alerted : (s.watch d).state = .alerted
  · have alarm := (h.watch d nofun).2.2.2.2.2.2 (.inl alerted)
    rw [State.acknowledge_of_alerted alerted]
    have marked : (s.modWatch d (fun w => { w with state := .acknowledged })).Watched :=
      h.modWatch_alert ((h.watch d nofun).acknowledged alerted) (iff_of_false nofun (by rw [alerted]; nofun)) rfl
    have station := State.station_dropPendingAll (s.modWatch d (fun w => { w with state := .acknowledged })) d
    have alert (e : District) : ((s.modWatch d (fun w => { w with state := .acknowledged })).watch e).alert = (s.watch e).alert := by
      rw [State.watch_modWatch]
      split
      next here => rw [here]
      · rfl
    generalize s.modWatch d (fun w => { w with state := .acknowledged }) = u at marked station alert
    have has (p : Position) (e : District) :
        ((u.dropPendingAll d).station p).pendingSet.has e = ((u.station p).pendingSet.has e && decide (e ≠ d)) := by
      rw [station]; exact DistrictSet.has_remove _ d e
    refine { marked with cleared := fun e _ cleared => ?_, subscribed := fun p e pending => ?_, told := fun p e _ pending => ?_ }
    · obtain ⟨p, pending⟩ := marked.cleared e nofun cleared
      have other : e ≠ d := by
        rintro rfl
        have calm : (s.watch e).alert = .cleared := (alert e).symm.trans cleared
        rcases alarm with x | x <;> exact nomatch x.symm.trans calm
      exact ⟨p, by rw [has, pending, decide_eq_true other]; rfl⟩
    · rw [has, Bool.and_eq_true] at pending
      rw [station]
      exact marked.subscribed p e pending.1
    · rw [has, Bool.and_eq_true] at pending
      exact marked.told p e nofun pending.1
  · have lost : (s.watch d).alert = .dataLoss := may.resolve_left alerted
    have same : s.acknowledge d = (s.modWatch d id).changeAlert d .none := by
      rw [State.modWatch_of_eq rfl]; exact if_neg alerted
    rw [same]
    exact h.loosen.changeAlert ((h.watch d nofun).lossAcknowledged lost) (h.out d nofun) fun gone => nomatch lost.symm.trans gone

theorem repaired {d : District} (may : (s.watch d).state = .alerted ∨ (s.watch d).state = .acknowledged) : (s.markRepaired d).Watched := by
  have alarm := (h.watch d nofun).2.2.2.2.2.2 may
  have served : (s.watch d).state ≠ .out := by rcases may with x | x <;> rw [x] <;> nofun
  refine h.loosen.changeAlert (f := Watch.repaired (s.baseline d).b.isSome) ((h.watch d nofun).repaired _) ?_ fun calm => ?_
  · refine iff_of_false ?_ (mt (h.out d nofun).2 served)
    cases (s.baseline d).b.isSome <;> nofun
  · have calm : (s.watch d).alert = .cleared := calm
    rcases alarm with x | x <;> exact nomatch x.symm.trans calm

/-- One district's record rewritten, its watch left out. -/
theorem rewrite {d : District} {f : DistrictRecord → DistrictRecord} (params : ParamsInRange s.nck.wlen (f (s.district d)).params)
    (hold : (f (s.district d)).hold = (s.district d).hold)
    (service : (f (s.district d)).inService = false → (f (s.district d)).nightState = .idle) : (s.modDistrict d f).WatchedBut (some d) := by
  have here := s.district_modDistrict_self d f
  have elsewhere {e : District} (other : e ≠ d) : (s.modDistrict d f).district e = s.district e := s.district_modDistrict_ne f other
  have apart {e : District} (other : some d ≠ some e) : e ≠ d := fun same => other (congrArg some same.symm)
  refine { h.loosen with params := fun e => ?_, holds := fun e x => ?_, service := fun e => ?_, watch := fun e other => ?_, out := fun e other => ?_ }
  · by_cases same : e = d
    · rw [same, here]; exact params
    · rw [elsewhere same]; exact h.params e
  · by_cases same : e = d
    · rw [same, here, hold]; exact h.holds d x
    · rw [elsewhere same]; exact h.holds e x
  · by_cases same : e = d
    · rw [same, here]; exact service
    · rw [elsewhere same]; exact h.service e
  · rw [elsewhere (apart other)]; exact h.watch e nofun
  · rw [elsewhere (apart other)]; exact h.out e nofun

/-- Parameters replaced, and the excess count brought under the new N_confirm (R67). -/
theorem configured (d : District) {ps : Params} (fits : ParamsInRange s.nck.wlen ps) :
    ((s.modDistrict d (fun r => { r with params := ps })).modWatch d (fun w => { w with excess := min w.excess ps.nConfirm })).Watched := by
  obtain ⟨-, -, -, -, -, -, -, -, -, -, -, confirm, -⟩ := id fits
  have here : (s.modDistrict d (fun r => { r with params := ps })).district d = { s.district d with params := ps } := s.district_modDistrict_self d _
  have loose := h.rewrite (d := d) (f := fun r => { r with params := ps }) fits rfl (h.service d)
  refine loose.rewatch ?_ ?_ (h.cleared d nofun) fun p => h.told p d nofun
  · rw [here]; exact (h.watch d nofun).reconfirmed confirm
  · rw [here]; exact h.out d nofun

theorem resized {a l g : Nat} (fits : ∀ d : District, (s.district d).params.m ≤ l) :
    State.Watched { s with nck.wstart := a, nck.wlen := l, nck.grace := g } :=
  { h with
    params := fun d => by
      obtain ⟨p1, p2, p3, p4, p5, p6, -, rest⟩ := h.params d
      exact ⟨p1, p2, p3, p4, p5, p6, fits d, rest⟩ }

theorem watches (change : WatchChange s t) : t.Watched := by
  cases change with
  | marked p f marks _ =>
    refine h.frame rfl (fun _ => rfl) (fun q => ?_) (fun _ => rfl) (fun _ => rfl) (fun _ _ => .inl) h.service
    rw [State.station_modStation]
    split
    next here => rw [here]; exact marks _
    · rfl
  | delivered p d => exact h.delivered p d
  | rejudged d => exact h.rejudged d
  | acknowledged d may => exact h.acknowledged may
  | repaired d may => exact h.repaired may
  | configured d ps fits => exact h.configured d fits
  | resized a l g fits => exact h.resized fits

/-! ## The night -/

theorem prompted : s.prompt.Watched := by
  rw [State.prompt_eq]
  exact h.same_districts rfl rfl rfl rfl

/-- Holds that end, or one that is placed. -/
theorem holds_only {ds : Table 32 DistrictRecord} (only : ∀ d : District, ds.get d = { s.district d with hold := (ds.get d).hold })
    (fits : ∀ d e, (ds.get d).hold = some e → (s.district d).hold = some e ∨ (e.expiry.day ≤ 65536 ∧ e.expiry.minute ≤ 1439)) :
    State.Watched { s with districts := ds } := by
  have params (d : District) : (ds.get d).params = (s.district d).params := by rw [only]
  have inService (d : District) : (ds.get d).inService = (s.district d).inService := by rw [only]
  have nightState (d : District) : (ds.get d).nightState = (s.district d).nightState := by rw [only]
  exact h.frame rfl (fun _ => rfl) (fun _ => rfl) params inService fits fun d out =>
    (nightState d).trans (h.service d ((inService d).symm.trans out))

theorem setNightState {d : District} {x : NightState} (fits : (s.district d).inService = false → x = .idle) : (s.setNightState d x).Watched :=
  h.modDistrict rfl rfl (fun _ => .inl) fits

theorem completed (order : s.InOrder) {f : Flight} (flown : s.flight = some f) (p : Option Nat) (r : Result) :
    (s.settleResult f.district p r).Watched := by
  have evaluating : (s.district f.district).nightState = .evaluating := (order.evaluating _).2 (by rw [flown]; rfl)
  have served : (s.district f.district).inService = true := by
    by_contra out
    have idle := h.service _ (Bool.eq_false_iff.2 out)
    rw [evaluating] at idle; exact nomatch idle
  have recorded : (s.modDistrict f.district (fun x => { x with heldPressure := p.or x.heldPressure, result := some r, nightState := .done })).Watched :=
    h.modDistrict rfl rfl (fun _ => .inl) fun out => nomatch out.symm.trans served
  have still : ((s.modDistrict f.district (fun x => { x with heldPressure := p.or x.heldPressure, result := some r, nightState := .done })).district
      f.district).inService = true := by rw [State.district_modDistrict_self]; exact served
  rw [State.settleResult_eq, State.offer_frame]
  generalize ((s.recorded f.district p r).offer f.district r).baselines = bs
  exact (recorded.same_districts (t := { s.recorded f.district p r with baselines := bs }) rfl rfl rfl rfl).applyResult still _ _

theorem assignNight (n : Nat) (d : District) : (s.assignNight n d).Watched := by
  unfold State.assignNight
  split
  next served =>
    split
    · exact h.setNightState fun out => nomatch out.symm.trans served
    · exact h.publishSkipped served n .noMeters
  · exact h.setNightState fun _ => rfl

theorem nightOpened (n : Nat) : (s.openNight n).Watched := by
  have purged : s.purge.Watched := h.same_districts rfl rfl rfl rfl
  have assigned : (allDistricts.foldl (State.assignNight n) s.purge).Watched :=
    List.foldlRecOn allDistricts _ purged fun u lawful d _ => lawful.assignNight n d
  unfold State.openNight
  dsimp only
  generalize allDistricts.foldl (State.assignNight n) s.purge = u at assigned
  exact assigned.same_districts rfl rfl rfl rfl

theorem abandonWaiting (m : Nat) (d : District) : (s.abandonWaiting m d).Watched := by
  have served (x : NightState) (stands : (s.district d).nightState = x) (busy : x ≠ .idle) : (s.district d).inService = true := by
    by_contra out
    exact busy (stands.symm.trans (h.service d (Bool.eq_false_iff.2 out)))
  unfold State.abandonWaiting
  split
  next opened => exact h.publishSkipped (served _ opened nofun) m .abandoned
  next queued => exact h.publishSkipped (served _ queued nofun) m .abandoned
  · exact h

theorem abandonFlight (order : s.InOrder) (m : Nat) : (s.abandonFlight m).Watched := by
  unfold State.abandonFlight
  split
  next f flown =>
    have evaluating : (s.district f.district).nightState = .evaluating := (order.evaluating _).2 (by rw [flown]; rfl)
    have dropped : State.Watched { s with flight := none } := h.same_districts rfl rfl rfl rfl
    refine dropped.publishSkipped ?_ m .abandoned
    by_contra out
    have idle := h.service _ (Bool.eq_false_iff.2 out)
    rw [evaluating] at idle; exact nomatch idle
  · exact h

theorem nightAbandoned (order : s.InOrder) : s.abandonNight.Watched := by
  unfold State.abandonNight
  dsimp only
  generalize s.nck.nightDay.getD 0 = m
  have dropped : (allDistricts.foldl (State.abandonWaiting m) (s.abandonFlight m)).Watched :=
    List.foldlRecOn allDistricts _ (h.abandonFlight order m) fun u lawful d _ => lawful.abandonWaiting m d
  generalize allDistricts.foldl (State.abandonWaiting m) (s.abandonFlight m) = u at dropped
  have emptied : State.Watched { u with queue := [], choiceDue := false } := dropped.same_districts rfl rfl rfl rfl
  exact emptied.raiseAll .nightClosed

theorem restarted : s.restart.Watched := by
  have district (d : District) := s.restart_district d
  have station (p : Position) : s.restart.station p =
      { s.station p with eventMask := (s.restart.station p).eventMask, flags := (s.restart.station p).flags } := by
    rw [State.restart_station]; split <;> rfl
  have frame := s.restart_eq
  generalize s.restart = t at district station frame ⊢
  have wlen : t.nck.wlen = s.nck.wlen := (congrArg (fun u : State => u.nck.wlen) frame).trans rfl
  have watch (d : District) : t.watch d = s.watch d := (congrArg (fun u : State => u.watch d) frame).trans rfl
  refine h.frame wlen watch station (fun d => by rw [district]) (fun d => by rw [district]) (fun d e held => ?_) fun d _ => by rw [district]
  rw [district] at held
  exact nomatch held

/-- A district taken out of service: its watch is OUT, with no count, and no alert of it is pending (R69). -/
theorem outOfService (d : District) :
    State.Watched (((({ s with queue := s.queue.filter (fun e => decide (e.district ≠ d)) } : State).modDistrict d
        (fun r => { r with inService := false, nightState := .idle })).modWatch d
        (fun w => { w with state := .out, excess := 0, gap := 0 })).changeAlert d .none) := by
  have here : (s.modDistrict d (fun r => { r with inService := false, nightState := .idle })).district d =
      { s.district d with inService := false, nightState := .idle } := s.district_modDistrict_self d _
  have loose := h.rewrite (d := d) (f := fun r => { r with inService := false, nightState := .idle }) (h.params d) rfl fun _ => rfl
  have unqueued := loose.same_districts
    (t := ({ s with queue := s.queue.filter (fun e => decide (e.district ≠ d)) } : State).modDistrict d
      (fun r => { r with inService := false, nightState := .idle })) rfl rfl rfl rfl
  refine unqueued.changeAlert (watchConsistent_out _) (iff_of_true rfl (congrArg DistrictRecord.inService here)) fun none_ => ⟨nofun, fun p pending => ?_⟩
  exact absurd none_ (h.told p d nofun pending)

/-- A district put into service starts with no count and no alert (R70); out of service it had none. -/
theorem intoService {d : District} (out : (s.district d).inService = false) : (s.putIn d).Watched := by
  have silent := ((h.watch d nofun).2.1 ((h.out d nofun).2 out)).2.2
  have here := s.district_modDistrict_self d (fun r => { r with inService := true, nightState := if s.nightInProgress then .skipped else .idle })
  have loose := h.rewrite (d := d) (f := fun r => { r with inService := true, nightState := if s.nightInProgress then .skipped else .idle })
    (h.params d) rfl nofun
  unfold State.putIn
  dsimp only
  generalize (s.baseline d).b.isSome = ready
  refine loose.rewatch ?_ ?_ nofun fun p pending => absurd silent (h.told p d nofun pending)
  · cases ready with
    | true => exact watchConsistent_quiet (Nat.zero_le _) (.inl rfl)
    | false => exact watchConsistent_learning (Nat.zero_le _) (.inl rfl)
  · refine iff_of_false ?_ (by rw [here]; nofun)
    cases ready <;> nofun

/-- An entry written: its pending set is rebuilt from what it asks for, and R142 looks at every CLEARED alert (R162). -/
theorem stationSet {p : Position} {st : Station} (fits : s.MayHold p st) : (s.setStation p st).Watched := by
  have district (d : District) := (s.setStation_district p st d).trans (s.entryWritten_district p st d)
  have watch (d : District) := s.setStation_watch p st d
  have station (q : Position) := (s.setStation_station p st q).trans (s.entryWritten_station p st q)
  have has (q : Position) (d : District) : ((s.setStation p st).station q).pendingSet.has d = s.rebuiltHas p st q d :=
    (congrArg (fun x : Station => x.pendingSet.has d) (s.setStation_station p st q)).trans (s.entryWritten_has p st q d)
  have frame := s.setStation_effect p st
  generalize s.setStation p st = t at district watch station has frame ⊢
  have wlen : t.nck.wlen = s.nck.wlen := (congrArg (fun u : State => u.nck.wlen) frame).trans rfl
  have params (d : District) : (t.district d).params = (s.district d).params := by rw [district]; split <;> rfl
  have inService (d : District) : (t.district d).inService = (s.district d).inService := by rw [district]; split <;> rfl
  have nightState (d : District) : (t.district d).nightState = (s.district d).nightState := by rw [district]; split <;> rfl
  have told (q : Position) (d : District) (pending : s.rebuiltHas p st q d = true) : (s.watch d).alert ≠ .none := by
    unfold State.rebuiltHas at pending
    split at pending
    · intro none_
      rw [none_, Bool.and_eq_true] at pending
      exact nomatch pending.2
    · exact h.told q d nofun pending
  constructor
  case params => intro d; rw [wlen, params]; exact h.params d
  case holds =>
    intro d e held
    rw [district] at held
    split at held
    · exact nomatch held
    · exact h.holds d e held
  case service => intro d out; rw [nightState]; exact h.service d ((inService d).symm.trans out)
  case watch =>
    intro d _
    rw [params, watch]
    split
    next ends => exact (h.watch d nofun).ended ends.1
    · exact h.watch d nofun
  case out =>
    intro d _
    rw [inService, watch]
    split
    · exact h.out d nofun
    · exact h.out d nofun
  case cleared =>
    intro d _ cleared
    rw [watch] at cleared
    split at cleared
    · exact nomatch cleared
    next stays =>
      by_contra none_
      refine stays ⟨cleared, fun q => Bool.eq_false_iff.2 fun pending => none_ ⟨q, ?_⟩⟩
      rw [has]; exact pending
  case subscribed =>
    intro q d pending
    rw [has] at pending
    rw [station]
    unfold State.rebuiltHas at pending
    split at pending
    next here =>
      rw [if_pos here]
      rw [Bool.and_eq_true] at pending
      refine ⟨fun free => ?_, pending.1⟩
      rcases fits with rfl | ⟨occupied, -⟩
      · have empty : DistrictSet.has freeStation.subscription d = false := by simp [freeStation, DistrictSet.has]
        exact nomatch empty.symm.trans pending.1
      · exact occupied free
    next other => rw [if_neg other]; exact h.subscribed q d pending
  case told =>
    intro q d _ pending
    rw [has] at pending
    rw [watch]
    split
    next ends => rw [ends.2 q] at pending; exact nomatch pending
    · exact told q d pending

theorem night (order : s.InOrder) (change : NightChange s t) : t.Watched := by
  cases change with
  | prompted => exact h.prompted
  | chose => exact h.same_districts rfl rfl rfl rfl
  | joined d why open_ _ =>
    rw [State.enqueue_eq]
    have queued : (s.setNightState d .queued).Watched := h.setNightState fun out => nomatch open_.symm.trans (h.service d out)
    exact queued.same_districts rfl rfl rfl rfl
  | windowEnded _ => exact h.same_districts rfl rfl rfl rfl
  | graceEnded _ _ => exact h.same_districts rfl rfl rfl rfl
  | daytime _ => exact h.same_districts rfl rfl rfl rfl
  | unheld ds ends =>
    refine h.holds_only (fun d => ?_) fun d e held => ?_
    · rcases ends d with same | ended
      · rw [same]
      · rw [ended]
    · rcases ends d with same | ended
      · exact .inl (by rwa [same] at held)
      · rw [ended] at held; exact nomatch held
  | held d x _ day minute =>
    refine h.modDistrict rfl rfl (fun e held => .inr ?_) (h.service d)
    obtain rfl := Option.some.inj held
    exact ⟨day, minute⟩
  | began e chosen _ _ =>
    have queued : (s.district e.district).nightState = .queued :=
      (order.queued _).2 (List.mem_map_of_mem (List.mem_of_find?_eq_some chosen))
    have evaluating : (s.setNightState e.district .evaluating).Watched := h.setNightState fun out => nomatch queued.symm.trans (h.service _ out)
    exact evaluating.same_districts rfl rfl rfl rfl
  | completed f flown => exact h.completed order flown _ _
  | nightOpened n _ _ _ => exact h.nightOpened n
  | nightAbandoned _ => exact h.nightAbandoned order
  | restarted => exact h.restarted
  | outOfService d _ => exact h.outOfService d
  | intoService d out => exact h.intoService out

theorem change (order : s.InOrder) (moves : Change s t) : t.Watched := by
  cases moves with
  | nothing same => exact h.of_bare same
  | store moves => exact h.stores moves
  | watch moves => exact h.watches moves
  | night moves => exact h.night order moves

theorem move (order : s.InOrder) (moves : Move s t) : t.Watched := by
  cases moves with
  | change moves => exact h.change order moves
  | entry p st _ fits => exact h.stationSet fits

end

end State.WatchedBut

/-- Settles O58, by the elementary changes that a step is made of. -/
theorem stepsKeepTheWatches : Obligations.StepsKeepTheWatches := by
  intro s t moves clock districts queue watch notice
  have order := (queueLaw_iff s).1 queue
  have kept := kept_of_step (P := fun u => u.InOrder ∧ u.Watched)
    (fun strap => by
      have order := (queueLaw_iff _).1 (afterReset_queueLaw strap)
      exact ⟨order, (watched_iff order.service).2 ⟨afterReset_districtLaw strap, afterReset_watchLaw strap, afterReset_noticeLaw strap⟩⟩)
    (fun u v move ⟨order, watched⟩ => ⟨order.move move, watched.move order move⟩) moves clock
    ⟨order, (watched_iff order.service).2 ⟨districts, watch, notice⟩⟩
  exact (watched_iff kept.1.service).1 kept.2

end Sys2Proof.Machine
end

section
/-!
PROOF. Only SET STATION moves a station's address, role and what it asks for; every other change leaves them, and an empty entry empty
(R158, R162).
-/

namespace Sys2Proof.Machine

/-- Stations keep what they are, vacant positions stay empty, and no counter passes its limit. -/
structure State.Stays (s t : State) : Prop where
  entry : ∀ p, t.station p = { s.station p with
    eventMask := (t.station p).eventMask, pendingSet := (t.station p).pendingSet, flags := (t.station p).flags }
  vacant : ∀ p, s.station p = freeStation → t.station p = freeStation
  counts : s.counters.Bounded → t.counters.Bounded

theorem freeStation_afterAlert (d : District) (a : Alert) : freeStation.afterAlert d a = freeStation := rfl

theorem freeStation_remove (d : District) : { freeStation with pendingSet := freeStation.pendingSet.remove d } = freeStation := by
  have none_ : DistrictSet.remove freeStation.pendingSet d = freeStation.pendingSet := by simp [freeStation, DistrictSet.remove]
  rw [none_]

namespace State.Stays

theorem refl (s : State) : s.Stays s := ⟨fun _ => rfl, fun _ => id, id⟩

theorem trans {s t u : State} (first : s.Stays t) (rest : t.Stays u) : s.Stays u :=
  ⟨fun p => by rw [rest.entry p, first.entry p], fun p free => rest.vacant p (first.vacant p free), fun h => rest.counts (first.counts h)⟩

/-- Every fold of a change that leaves the stations leaves them. -/
theorem foldl {α : Type} {f : State → α → State} (each : ∀ (s : State) (a : α), s.Stays (f s a)) (l : List α) (s : State) : s.Stays (l.foldl f s) := by
  induction l generalizing s with
  | nil => exact refl s
  | cons a l ih => exact (each s a).trans (ih _)

theorem of_stations {s t : State} (stations : t.stations = s.stations) (counts : s.counters.Bounded → t.counters.Bounded := by exact id) :
    s.Stays t := by
  have station (p : Position) : t.station p = s.station p := congrArg (Table.get · p) stations
  exact ⟨fun p => by rw [station], fun p free => (station p).trans free, counts⟩

/-- A change that each station takes as an alert change, or not at all. -/
theorem of_alert {s t : State} (station : ∀ p, t.station p = s.station p ∨ ∃ d a, t.station p = (s.station p).afterAlert d a)
    (counters : t.counters = s.counters) : s.Stays t := by
  refine ⟨fun p => ?_, fun p free => ?_, fun h => counters ▸ h⟩
  · rcases station p with same | ⟨d, a, told⟩
    · rw [same]
    · rw [told, Station.afterAlert_frame]
  · rcases station p with same | ⟨d, a, told⟩
    · rw [same, free]
    · rw [told, free, freeStation_afterAlert]

section
variable (s : State)

theorem changeAlert (d : District) (a : Alert) : s.Stays (s.changeAlert d a) := by
  refine of_alert (fun p => ?_) (by rw [State.changeAlert_frame])
  unfold State.changeAlert
  split
  · exact .inl rfl
  · exact .inr ⟨d, _, (s.setAlert d a).alertChanged_station d p⟩

theorem applyResult (d : District) (st : ResultStatus) (v : Verdict) : s.Stays (s.applyResult d st v) := by
  refine of_alert (fun p => ?_) (by rw [State.applyResult_frame])
  rw [State.applyResult_station]
  split
  · exact .inr ⟨d, _, rfl⟩
  · exact .inl rfl

theorem publishSkipped (d : District) (n : Nat) (why : Reason) : s.Stays (s.publishSkipped d n why) := by
  rw [State.publishSkipped_eq]
  exact (of_stations (s := s) (t := s.modDistrict d (DistrictRecord.skipped n why)) rfl).trans (applyResult _ d .skipped .none)

theorem raiseAt (f : EventFlag) (p : Position) : s.Stays (s.raiseAt f p) := by
  have station (q : Position) := s.raiseAt_station f p q
  refine ⟨fun q => ?_, fun q free => ?_, by rw [State.raiseAt_frame]; exact id⟩
  · rw [station]; split <;> rfl
  · rw [station]
    split
    next raised =>
      have occupied := raised.2
      rw [← raised.1, free] at occupied; exact nomatch occupied
    · exact free

theorem raiseAll (f : EventFlag) : s.Stays (s.raiseAll f) := foldl (fun u p => raiseAt u f p) allPositions s

theorem restart : s.Stays s.restart := by
  refine ⟨fun q => ?_, fun q free => ?_, by rw [State.restart_eq]; exact id⟩
  · rw [State.restart_station]; split <;> rfl
  · rw [State.restart_station]
    split
    next held => exact absurd (congrArg Station.role free) held.1
    · exact free

theorem openNight (n : Nat) : s.Stays (s.openNight n) := by
  have assigns (u : State) (d : District) : u.Stays (u.assignNight n d) := by
    unfold State.assignNight
    split
    · split
      · exact of_stations rfl
      · exact publishSkipped u d n .noMeters
    · exact of_stations rfl
  have assigned : s.Stays (allDistricts.foldl (State.assignNight n) s.purge) := (of_stations (s := s) (t := s.purge) rfl).trans (foldl assigns _ _)
  unfold State.openNight
  dsimp only
  generalize allDistricts.foldl (State.assignNight n) s.purge = u at assigned
  exact assigned.trans (of_stations rfl)

theorem abandonNight : s.Stays s.abandonNight := by
  unfold State.abandonNight
  dsimp only
  generalize s.nck.nightDay.getD 0 = m
  have waits (u : State) (d : District) : u.Stays (u.abandonWaiting m d) := by
    unfold State.abandonWaiting
    split
    · exact publishSkipped u d m .abandoned
    · exact publishSkipped u d m .abandoned
    · exact refl u
  have flight : s.Stays (s.abandonFlight m) := by
    unfold State.abandonFlight
    split
    next f _ => exact (of_stations (s := s) (t := { s with flight := none }) rfl).trans (publishSkipped _ f.district m .abandoned)
    · exact refl s
  have dropped : s.Stays (allDistricts.foldl (State.abandonWaiting m) (s.abandonFlight m)) := flight.trans (foldl waits _ _)
  generalize allDistricts.foldl (State.abandonWaiting m) (s.abandonFlight m) = u at dropped
  exact dropped.trans ((of_stations (s := u) (t := { u with queue := [], choiceDue := false }) rfl).trans (raiseAll _ .nightClosed))

theorem delivered (p : Position) (d : District) : s.Stays ((s.dropPending p d).endCleared d) := by
  have dropped : s.Stays (s.dropPending p d) := by
    have station (q : Position) : (s.dropPending p d).station q = _ :=
      s.station_modStation p q (fun st => { st with pendingSet := st.pendingSet.remove d })
    refine ⟨fun q => ?_, fun q free => ?_, id⟩
    · rw [station]
      split
      next here => rw [here]
      · rfl
    · rw [station]
      split
      next here => rw [← here, free]; exact freeStation_remove d
      · exact free
  generalize s.dropPending p d = u at dropped
  rw [State.endCleared_eq]
  exact dropped.trans (of_stations rfl)

theorem acknowledge (d : District) : s.Stays (s.acknowledge d) := by
  unfold State.acknowledge
  split
  · have station := State.station_dropPendingAll (s.modWatch d (fun w => { w with state := .acknowledged })) d
    refine ⟨fun q => ?_, fun q free => ?_, id⟩
    · rw [station]; rfl
    · rw [station]
      change { s.station q with pendingSet := (s.station q).pendingSet.remove d } = freeStation
      rw [free]
      exact freeStation_remove d
  · exact changeAlert s d .none

end

end State.Stays

/-- Every elementary change leaves what stations are. -/
theorem Change.stays {s t : State} (change : Change s t) : s.Stays t := by
  cases change with
  | nothing same counts =>
    have stations := congrArg State.stations same.symm
    exact .of_stations stations counts
  | store change => rw [change.frame]; exact .of_stations rfl
  | watch change =>
    cases change with
    | marked p f marks vacant =>
      have station (q : Position) := s.station_modStation p q f
      refine ⟨fun q => ?_, fun q free => ?_, id⟩
      · rw [station]
        split
        next here =>
          have kept : (f (s.station p)).pendingSet = (s.station p).pendingSet := by rw [marks]
          rw [here, kept]
          exact marks _
        · rfl
      · rw [station]
        split
        next here => rw [← here, free]; exact vacant (here ▸ free)
        · exact free
    | delivered p d => exact .delivered s p d
    | rejudged d => exact .of_stations rfl
    | acknowledged d _ => exact .acknowledge s d
    | repaired d _ =>
      unfold State.markRepaired
      exact (State.Stays.of_stations (s := s) (t := s.modWatch d (fun w =>
        { w with state := if (s.baseline d).b.isSome then .quiet else .learning, excess := 0 })) rfl).trans (.changeAlert _ d .cleared)
    | configured d ps _ => exact .of_stations rfl
    | resized a l g _ => exact .of_stations rfl
  | night change =>
    cases change with
    | prompted => rw [State.prompt_eq]; exact .of_stations rfl
    | chose => exact .of_stations rfl
    | joined d why _ _ => rw [State.enqueue_eq]; exact .of_stations rfl
    | windowEnded _ => exact .of_stations rfl
    | graceEnded _ _ => exact .of_stations rfl
    | daytime _ => exact .of_stations rfl
    | unheld ds _ => exact .of_stations rfl
    | held d h _ _ _ => exact .of_stations rfl
    | began e _ _ _ => exact .of_stations rfl
    | completed f _ =>
      rw [State.settleResult_eq, State.offer_frame]
      exact .trans (.of_stations (s := s) (t := { s.recorded f.district f.snapshot.cellPressure f.snapshot.result with
        baselines := ((s.recorded f.district f.snapshot.cellPressure f.snapshot.result).offer f.district f.snapshot.result).baselines }) rfl)
        (.applyResult _ _ _ _)
    | nightOpened n _ _ _ => exact .openNight s n
    | nightAbandoned _ => exact .abandonNight s
    | restarted => exact .restart s
    | outOfService d _ =>
      exact (State.Stays.of_stations (s := s) (t := (({ s with queue := s.queue.filter (fun e => decide (e.district ≠ d)) } : State).modDistrict d
        (fun r => { r with inService := false, nightState := .idle })).modWatch d
        (fun w => { w with state := .out, excess := 0, gap := 0 })) rfl).trans (.changeAlert _ d .none)
    | intoService d _ => exact .of_stations rfl

theorem Chain.stays {s t : State} (chain : Chain s t) : s.Stays t := by
  induction chain with
  | refl => exact .refl s
  | tail _ change ih => exact ih.trans change.stays

/-! ## Events and requests that a chain needs the clock's law for -/

section
variable (s : State)

theorem State.reachWindowStart_stays (n : Nat) : s.Stays (s.reachWindowStart n) := by
  unfold State.reachWindowStart
  split
  · exact .openNight s n
  · exact (State.Stays.abandonNight s).trans (.openNight _ n)
  all_goals exact .refl s

theorem State.reach_stays (e : ClockEvent) : s.Stays (s.reach e) := by
  cases e with
  | windowStart n => exact s.reachWindowStart_stays n
  | windowEnd => exact (s.reach_chain .windowEnd nofun).stays
  | graceExpiry => exact (s.reach_chain .graceExpiry nofun).stays
  | holdExpiry d => exact (s.reach_chain (.holdExpiry d) nofun).stays

theorem State.reachInJump_stays (e : ClockEvent) : s.Stays (s.reachInJump e) := by
  unfold State.reachInJump
  split
  · exact (s.reach_stays e).trans (State.choose_chain _).stays
  · exact s.reach_stays e

theorem State.takeSpan_stays {take : State → ClockEvent → State} (each : ∀ (u : State) (e : ClockEvent), u.Stays (take u e))
    (t0 t1 : ClockTime) : s.Stays (s.takeSpan take t0 t1) := by
  have picked (u : State) (k : Nat) : u.Stays { u with freeCount := k } := .of_stations rfl
  unfold State.takeSpan
  generalize s.agenda t0 t1 = l
  exact State.runAgenda_keeps (P := fun u _ => s.Stays u) (fun u _ k stays => stays.trans (picked u k))
    (fun u _ e stays _ => stays.trans (each u e.2)) l.length l (le_refl _) s (.refl s)

theorem State.minuteEvent_stays : s.Stays s.minuteEvent := by
  unfold State.minuteEvent
  split
  · split
    · exact .of_stations rfl
    · exact .trans (.of_stations (s := s) (t := s.minuteOn (s.nck.clock.plus 1)) rfl) (State.takeSpan_stays _ State.reach_stays _ _)
  · exact .refl s

theorem State.firstSet_stays (t : ClockTime) : s.Stays (s.firstSet t) := by
  have placed : s.Stays { s.placeClock t with nck.clockSet := true } := .of_stations rfl
  have expired : s.Stays (allDistricts.foldl (State.expireIfReached t) { s.placeClock t with nck.clockSet := true }) :=
    placed.trans (.foldl (fun u d => (u.expireIfReached_chain t d).stays) _ _)
  unfold State.firstSet
  dsimp only
  generalize allDistricts.foldl (State.expireIfReached t) { s.placeClock t with nck.clockSet := true } = u at expired
  split
  · exact expired.trans (.openNight u t.day)
  · exact expired.trans (.of_stations rfl)

variable (p : Position) (body : List Byte)

theorem setTime_stays : s.Stays (setTime s p body).1 := by
  unfold setTime
  split
  · exact .refl s
  next t _ =>
    split_ifs
    · exact .refl s
    · exact s.firstSet_stays t
    · exact .of_stations rfl
    · exact (State.Stays.of_stations (s := s) (t := s.placeClock t) rfl).trans (State.takeSpan_stays _ State.reachInJump_stays _ _)
    · exact .of_stations rfl
    · exact .refl s

theorem State.examine_stays (e : Entry) : s.Stays (s.examine e).1 := by
  have volume : (if decide (1048575 < e.volume) = true then 1048575 else e.volume) ≤ 1048575 := by
    split
    · exact le_refl _
    next fits => exact Nat.not_lt.1 fun big => fits (decide_eq_true big)
  unfold State.examine
  dsimp only
  generalize (if decide (1048575 < e.volume) = true then 1048575 else e.volume) = v at volume
  split
  · exact .of_stations rfl Counters.Bounded.unknownMeter
  next i found =>
    have passes := List.find?_some (show List.find? _ _ = some i from found)
    have used : (s.slot i).enabled = true := (Bool.and_eq_true_iff.1 passes).1
    split_ifs
    · exact .refl s
    · exact .refl s
    · exact .of_stations rfl Counters.Bounded.late
    · exact .refl s
    · exact (s.fileEntry_chain i _ _ _ _ used volume).stays

theorem State.examineAll_stays (es : List Entry) : s.Stays (s.examineAll es).1 := by
  induction es generalizing s with
  | nil => exact .refl s
  | cons e es ih => exact (s.examine_stays e).trans (ih _)

theorem postReading_stays : s.Stays (postReading s p body).1 := by
  unfold postReading
  split
  · exact .refl s
  · split
    · exact .refl s
    next es _ => exact s.examineAll_stays es

theorem holdDistrict_stays : s.Stays (holdDistrict s p body).1 := by
  unfold holdDistrict
  split
  · exact .refl s
  · split
    · exact .refl s
    · split_ifs
      · exact .refl s
      · split
        · exact .refl s
        · exact .of_stations rfl

end

end Sys2Proof.Machine
end

section
/-!
PROOF. No answer is longer than the 92 bytes of the longest body, and so no message than 96 (R182, R186, R193).
-/

namespace Sys2Proof.Machine

/-- The request is answered with a body of at most 92 bytes. -/
def ShortReply (r : State × Reply) : Prop := r.2.body.length ≤ 92

theorem shortReply_refuse (s : State) (st : Status) : ShortReply (refuse s st) := Nat.zero_le _

theorem shortReply_empty (s : State) : ShortReply (accept s []) := Nat.zero_le _

theorem shortReply_accept {s : State} {out : List Byte} (short : out.length ≤ 92) : ShortReply (accept s out) := short

theorem be24_length (n : Nat) : (be24 n).length = 3 := rfl
theorem be32_length (n : Nat) : (be32 n).length = 4 := rfl
theorem beSigned32_length (i : Int) : (beSigned32 i).length = 4 := rfl

section
variable (s : State) (p : Position) (body : List Byte)

/-! ## Requests that change something -/

theorem setTime_short : ShortReply (setTime s p body) := by
  unfold setTime
  repeat' split
  all_goals simp only [shortReply_refuse, shortReply_empty]

theorem setWindow_short : ShortReply (setWindow s p body) := by
  unfold setWindow
  dsimp only
  repeat' split
  all_goals simp only [shortReply_refuse, shortReply_empty]

theorem closeNight_short : ShortReply (closeNight s p body) := by
  unfold closeNight
  repeat' split
  all_goals simp only [shortReply_refuse, shortReply_empty]

theorem restartEngine_short : ShortReply (restartEngine s p body) := by
  unfold restartEngine
  repeat' split
  all_goals simp only [shortReply_refuse, shortReply_empty]

theorem bindMeter_short : ShortReply (bindMeter s p body) := by
  unfold bindMeter
  dsimp only
  repeat' split
  all_goals simp only [shortReply_refuse, shortReply_empty]

theorem enableMeter_short : ShortReply (enableMeter s p body) := by
  unfold enableMeter
  dsimp only
  repeat' split
  all_goals simp only [shortReply_refuse, shortReply_empty]

theorem disableMeter_short : ShortReply (disableMeter s p body) := by
  unfold disableMeter
  dsimp only
  repeat' split
  all_goals simp only [shortReply_refuse, shortReply_empty]

theorem forgetStrays_short : ShortReply (forgetStrays s p body) := by
  unfold forgetStrays
  repeat' split
  all_goals simp only [shortReply_refuse, shortReply_empty]

theorem configureDistrict_short : ShortReply (configureDistrict s p body) := by
  unfold configureDistrict
  dsimp only
  repeat' split
  all_goals simp only [shortReply_refuse, shortReply_empty]

theorem setService_short : ShortReply (setService s p body) := by
  unfold setService
  repeat' split
  all_goals simp only [shortReply_refuse, shortReply_empty]

theorem releaseDistrict_short : ShortReply (releaseDistrict s p body) := by
  unfold releaseDistrict
  repeat' split
  all_goals simp only [shortReply_refuse, shortReply_empty]

theorem setBaselineMode_short : ShortReply (setBaselineMode s p body) := by
  unfold setBaselineMode
  dsimp only
  repeat' split
  all_goals simp only [shortReply_refuse, shortReply_empty]

theorem loadRing_short : ShortReply (loadRing s p body) := by
  unfold loadRing
  repeat' split
  all_goals simp only [shortReply_refuse, shortReply_empty]

theorem clearRing_short : ShortReply (clearRing s p body) := by
  unfold clearRing
  repeat' split
  all_goals simp only [shortReply_refuse, shortReply_empty]

theorem setStation_short : ShortReply (setStation s p body) := by
  unfold setStation
  dsimp only
  repeat' split
  all_goals simp only [shortReply_refuse, shortReply_empty]

theorem setEventMask_short : ShortReply (setEventMask s p body) := by
  unfold setEventMask
  repeat' split
  all_goals simp only [shortReply_refuse, shortReply_empty]

theorem clearCounters_short : ShortReply (clearCounters s p body) := by
  unfold clearCounters
  repeat' split
  all_goals simp only [shortReply_refuse, shortReply_empty]

theorem postPressure_short : ShortReply (postPressure s p body) := by
  unfold postPressure
  dsimp only
  repeat' split
  all_goals exact Nat.le_of_ble_eq_true rfl

theorem holdDistrict_short : ShortReply (holdDistrict s p body) := by
  unfold holdDistrict
  dsimp only
  repeat' split
  all_goals exact Nat.le_of_ble_eq_true rfl

theorem acknowledge_short : ShortReply (acknowledge s p body) := by
  unfold acknowledge
  repeat' split
  all_goals exact Nat.le_of_ble_eq_true rfl

theorem markRepaired_short : ShortReply (markRepaired s p body) := by
  unfold markRepaired
  repeat' split
  all_goals exact Nat.le_of_ble_eq_true rfl

/-! ## Requests that answer what they read -/

theorem readEvents_short : ShortReply (readEvents s p body) := by
  unfold readEvents
  split
  · exact shortReply_refuse s _
  · exact Nat.le_of_ble_eq_true rfl

theorem readWatch_short : ShortReply (readWatch s p body) := by
  unfold readWatch
  dsimp only
  repeat' split
  all_goals exact Nat.le_of_ble_eq_true rfl

theorem readStatus_short : ShortReply (readStatus s p body) := by
  unfold readStatus
  split
  · exact shortReply_refuse s _
  · exact shortReply_accept (Nat.le_of_ble_eq_true rfl)

theorem readDistrict_short : ShortReply (readDistrict s p body) := by
  unfold readDistrict
  repeat' split
  · exact shortReply_refuse s _
  · exact shortReply_refuse s _
  · exact shortReply_accept (Nat.le_of_ble_eq_true rfl)

theorem Result.bytes_length (r : Result) : r.bytes.length = 38 := by
  unfold Result.bytes
  split
  · rfl
  · split <;> rfl

theorem readResult_short : ShortReply (readResult s p body) := by
  unfold readResult
  repeat' split
  · exact shortReply_refuse s _
  · exact shortReply_refuse s _
  · exact Nat.le_of_ble_eq_true rfl
  next r _ => exact shortReply_accept (by rw [List.length_cons, r.bytes_length]; decide)

theorem takeNotice_short : ShortReply (takeNotice s p body) := by
  unfold takeNotice
  repeat' split
  · exact shortReply_refuse s _
  · exact shortReply_refuse s _
  · exact shortReply_accept (Nat.le_of_ble_eq_true rfl)

/-- Entries of one size take that size each. -/
theorem flatMap_length {α : Type} {f : α → List Byte} {n : Nat} (size : ∀ a, (f a).length = n) (l : List α) :
    (l.flatMap f).length = l.length * n := by
  rw [List.length_flatMap, List.map_congr_left fun a _ => size a, List.map_const', List.sum_replicate_nat]

theorem Slot.bytes_length (sl : Slot) : sl.bytes.length = 60 := by
  have cells : (sl.cells.1.flatMap Cell.bytes).length = 48 := by
    rw [flatMap_length (f := Cell.bytes) (n := 3) (fun _ => rfl), sl.cells.2]
  simp only [Slot.bytes, List.length_append, be32_length, be24_length, List.length_cons, List.length_nil, cells]

theorem readMeter_short : ShortReply (readMeter s p body) := by
  unfold readMeter
  split
  · exact shortReply_refuse s _
  · exact shortReply_accept (by rw [Slot.bytes_length]; decide)

theorem readStrayList_short (directory : DirectoryLaw s) : ShortReply (readStrayList s p body) := by
  obtain ⟨-, -, few, -⟩ := directory
  unfold readStrayList
  split
  · exact shortReply_refuse s _
  · refine shortReply_accept ?_
    rw [List.length_cons, flatMap_length (f := Stray.bytes) (n := 7) (fun _ => rfl)]
    omega

/-- The queue holds no district twice, so at most every district (R83). -/
theorem queue_length_le {s : State} (queue : QueueLaw s) : s.queue.length ≤ 32 := by
  have few := queue.1.length_le_card
  rwa [List.length_map, Fintype.card_fin] at few

theorem readQueue_short (queue : QueueLaw s) : ShortReply (readQueue s p body) := by
  have few := queue_length_le queue
  unfold readQueue
  split
  · exact shortReply_refuse s _
  · refine shortReply_accept ?_
    rw [List.length_cons, List.length_cons, List.length_map]
    omega

theorem readRing_short (ring : RingLaw s) : ShortReply (readRing s p body) := by
  unfold readRing
  repeat' split
  · exact shortReply_refuse s _
  · exact shortReply_refuse s _
  next d _ =>
    have few := (ring d).1
    refine shortReply_accept ?_
    have entries : ((s.baseline d).ring.flatMap RingEntry.bytes).length = (s.baseline d).ring.length * 6 :=
      flatMap_length (f := RingEntry.bytes) (n := 6) (fun _ => rfl) _
    simp only [Baseline.bytes, List.length_append, List.length_cons, List.length_nil, be24_length, beSigned32_length, entries]
    omega

theorem State.examineAll_length (es : List Entry) : (s.examineAll es).2.length = es.length := by
  induction es generalizing s with
  | nil => rfl
  | cons e es ih => exact congrArg Nat.succ (ih _)

/-- POST READING carries at most 8 entries (R41). -/
theorem readReadings_length {es : List Entry} (read : readReadings body = .ok es) : es.length ≤ 8 := by
  rw [readReadings_eq] at read
  dsimp only at read
  split_ifs at read with short count size out
  cases read
  rw [List.length_map, List.length_range]
  omega

theorem postReading_short : ShortReply (postReading s p body) := by
  unfold postReading
  split
  · exact shortReply_refuse s _
  · split
    · exact shortReply_refuse s _
    next es read =>
      have few := readReadings_length body read
      refine shortReply_accept ?_
      rw [List.length_cons, List.length_map, State.examineAll_length]
      omega

/-! ## Every request -/

theorem handle_short (k : Kind) (queue : QueueLaw s) (directory : DirectoryLaw s) (ring : RingLaw s) : ShortReply (handle k s p body) := by
  cases k with
  | readStrayList => exact readStrayList_short s p body directory
  | readQueue => exact readQueue_short s p body queue
  | readRing => exact readRing_short s p body ring
  | setTime => exact setTime_short s p body
  | setWindow => exact setWindow_short s p body
  | closeNight => exact closeNight_short s p body
  | restartEngine => exact restartEngine_short s p body
  | bindMeter => exact bindMeter_short s p body
  | enableMeter => exact enableMeter_short s p body
  | disableMeter => exact disableMeter_short s p body
  | readMeter => exact readMeter_short s p body
  | forgetStrays => exact forgetStrays_short s p body
  | postReading => exact postReading_short s p body
  | postPressure => exact postPressure_short s p body
  | configureDistrict => exact configureDistrict_short s p body
  | setService => exact setService_short s p body
  | holdDistrict => exact holdDistrict_short s p body
  | releaseDistrict => exact releaseDistrict_short s p body
  | readDistrict => exact readDistrict_short s p body
  | readResult => exact readResult_short s p body
  | setBaselineMode => exact setBaselineMode_short s p body
  | loadRing => exact loadRing_short s p body
  | clearRing => exact clearRing_short s p body
  | acknowledge => exact acknowledge_short s p body
  | markRepaired => exact markRepaired_short s p body
  | readWatch => exact readWatch_short s p body
  | setStation => exact setStation_short s p body
  | setEventMask => exact setEventMask_short s p body
  | takeNotice => exact takeNotice_short s p body
  | readEvents => exact readEvents_short s p body
  | readStatus => exact readStatus_short s p body
  | clearCounters => exact clearCounters_short s p body

/-- An answer message is four bytes longer than its body (R184). -/
theorem answerMessage_length (k : Byte) (st : Status) (out : List Byte) : (answerMessage k st out).length = out.length + 4 := by
  simp [answerMessage, closed]

end

end Sys2Proof.Machine
end

section
/-!
PROOF. The laws of the Station Table through every change, and of the link through every frame (R158, R159, R161, R171, R175, R178, R182, R189).
-/

namespace Sys2Proof.Machine

/-! ## The Station Table -/

theorem StationLaw.stays {s t : State} (law : StationLaw s) (stays : s.Stays t) : StationLaw t := by
  have address (p : Position) : (t.station p).address = (s.station p).address := by rw [stays.entry]
  have role (p : Position) : (t.station p).role = (s.station p).role := by rw [stays.entry]
  have subscription (p : Position) : (t.station p).subscription = (s.station p).subscription := by rw [stays.entry]
  have kindMask (p : Position) : (t.station p).kindMask = (s.station p).kindMask := by rw [stays.entry]
  obtain ⟨telemetry, all, kinds, others, distinct⟩ := law
  refine ⟨(role 0).trans telemetry, (subscription 0).trans all, (kindMask 0).trans kinds, fun p other => ?_, fun p q => ?_⟩
  · obtain ⟨never, free, addressed⟩ := others p other
    refine ⟨by rw [role]; exact never, fun vacant => stays.vacant p (free ((role p).symm.trans vacant)), ?_⟩
    rw [role, address]; exact addressed
  · rw [role, role, address, address]; exact distinct p q

theorem rebuiltSet_freeStation (s : State) : s.rebuiltSet freeStation = 0#32 := by
  refine BitVec.eq_of_getLsbD_eq fun i inside => ?_
  have none_ := s.rebuiltSet_has freeStation ⟨i, inside⟩
  have absent : freeStation.subscription.getLsbD i = false := by simp [freeStation]
  simp only [DistrictSet.has, absent, Bool.false_and] at none_
  simpa using none_

theorem State.setStation_station_of_ne (s : State) {p q : Position} (st : Station) (other : q ≠ p) :
    (s.setStation p st).station q = s.station q := by
  rw [State.setStation_station, State.entryWritten_station, if_neg other]

theorem State.setStation_station_self (s : State) (p : Position) (st : Station) :
    (s.setStation p st).station p = { st with flags := 0#5, pendingSet := s.rebuiltSet st } := by
  rw [State.setStation_station, State.entryWritten_station, if_pos rfl]

/-- An entry that SET STATION accepts keeps the table's laws (R161). -/
theorem StationLaw.entry {s : State} (law : StationLaw s) {p : Position} {st : Station} (other : p ≠ 0) (fits : s.MayHold p st) :
    StationLaw (s.setStation p st) := by
  obtain ⟨telemetry, all, kinds, others, distinct⟩ := law
  have self := s.setStation_station_self p st
  have elsewhere {q : Position} (ne : q ≠ p) := s.setStation_station_of_ne st ne
  have apart {q : Position} (ne : q ≠ p) (here : st.role ≠ none) (there : (s.station q).role ≠ none) : (s.station q).address ≠ st.address := by
    rcases fits with rfl | ⟨-, -, -, own⟩
    · exact absurd rfl here
    · exact own q ne there
  have zero := elsewhere other.symm
  generalize s.setStation p st = t at self elsewhere zero ⊢
  refine ⟨by rw [zero]; exact telemetry, by rw [zero]; exact all, by rw [zero]; exact kinds, fun q ne => ?_, fun q r occupied occupied' same => ?_⟩
  · by_cases at_ : q = p
    · rw [at_, self]
      rcases fits with rfl | ⟨occupied, never, addressed, -⟩
      · rw [rebuiltSet_freeStation]
        exact ⟨nofun, fun _ => rfl, fun here => absurd rfl here⟩
      · exact ⟨never, fun vacant => absurd vacant occupied, fun _ => addressed⟩
    · rw [elsewhere at_]; exact others q ne
  · by_cases first : q = p
    · by_cases second : r = p
      · exact first.trans second.symm
      · rw [first, self] at occupied same
        rw [elsewhere second] at occupied' same
        exact absurd same.symm (apart second occupied occupied')
    · by_cases second : r = p
      · rw [second, self] at occupied' same
        rw [elsewhere first] at occupied same
        exact absurd same (apart first occupied' occupied)
      · rw [elsewhere first] at occupied same
        rw [elsewhere second] at occupied' same
        exact distinct q r occupied occupied' same

/-! ## The link's own ranges -/

/-- The link's own part of `LinkLaw`, but for what a break run and the end of a message leave in between (R175, R178, R182). -/
structure Link.InRange (l : Link) : Prop where
  free : l.phase = .free ↔ l.holder = none
  frames : l.frames ≤ 64
  clearFrames : l.clearFrames ≤ 3
  received : l.recvBuf.length ≤ 64
  answer : l.answer.length ≤ 96
  breakRun : l.breakRun ≤ 16
  fairness : ∀ h, l.fairness = some h → h.freeFrames ≤ 2
  sending : l.phase = .answer ∨ l.phase = .trailer → l.sendPos < l.answer.length

/-- Address `a` is a contender's, and of an occupied position. -/
abbrev State.Occupies (s : State) (a : BitVec 4) : Prop := a ≠ 0#4 ∧ ∃ p : Position, (s.station p).role ≠ none ∧ (s.station p).address = a

/-- Table, link and counters as the laws give them, after a run of `k` break frames; a message may just have ended. -/
structure State.LinkedEnd (k : Nat) (s : State) : Prop where
  stations : StationLaw s
  link : s.link.InRange
  holder : ∀ a, s.link.holder = some a → s.Occupies a
  counts : s.counters.Bounded
  run : s.link.breakRun = k

/-- The same, with no message ended. -/
structure State.Linked (k : Nat) (s : State) : Prop extends State.LinkedEnd k s where
  waiting : s.link.phase = .request → s.link.clearFrames ≤ 2

theorem linkLaw_iff (s : State) :
    StationLaw s ∧ LinkLaw s ↔ s.Linked s.link.breakRun ∧ (s.link.phase ≠ .free → s.link.breakRun ≤ 1) := by
  have holder : s.link.holder.all (fun a => decide (a ≠ 0#4 ∧ ∃ p : Position, (s.station p).role ≠ none ∧ (s.station p).address = a)) = true ↔
      ∀ a, s.link.holder = some a → s.Occupies a := by
    simp only [Option.all_eq_true, decide_eq_true_eq]
  have fairness : s.link.fairness.all (fun h => decide (h.freeFrames ≤ 2)) = true ↔ ∀ h, s.link.fairness = some h → h.freeFrames ≤ 2 := by
    simp only [Option.all_eq_true, decide_eq_true_eq]
  constructor
  · rintro ⟨stations, free, held, frames, clear, waiting, received, answer, run, grant, fair, sending, counts⟩
    exact ⟨⟨⟨stations, ⟨free, frames, clear, received, answer, run, fairness.1 fair, sending⟩, holder.1 held, counts, rfl⟩, waiting⟩, grant⟩
  · rintro ⟨⟨⟨stations, ⟨free, frames, clear, received, answer, run, fair, sending⟩, held, counts, -⟩, waiting⟩, grant⟩
    exact ⟨stations, free, holder.2 held, frames, clear, waiting, received, answer, run, grant, fairness.2 fair, sending, counts⟩

section
variable {k : Nat} {s t : State}

theorem State.Occupies.stays {a : BitVec 4} (h : s.Occupies a) (stays : s.Stays t) : t.Occupies a := by
  obtain ⟨nonzero, p, role, address⟩ := h
  refine ⟨nonzero, p, ?_, ?_⟩
  · rw [stays.entry]; exact role
  · rw [stays.entry]; exact address

/-- A change of the link that stations stay through, the grant kept or ended. -/
theorem State.LinkedEnd.of_stays (h : s.LinkedEnd k) (stays : s.Stays t) (link : t.link.InRange)
    (holder : t.link.holder = s.link.holder ∨ t.link.holder = none) (run : t.link.breakRun = s.link.breakRun) : t.LinkedEnd k where
  stations := h.stations.stays stays
  link := link
  holder a granted := by
    rcases holder with same | ended
    · exact (h.holder a (same.symm.trans granted)).stays stays
    · exact nomatch ended.symm.trans granted
  counts := stays.counts h.counts
  run := run.trans h.run

theorem State.Linked.of_stays (h : s.Linked k) (stays : s.Stays t) (link : t.link.InRange)
    (holder : t.link.holder = s.link.holder ∨ t.link.holder = none) (run : t.link.breakRun = s.link.breakRun)
    (waiting : t.link.phase = .request → t.link.clearFrames ≤ 2) : t.Linked k :=
  ⟨h.toLinkedEnd.of_stays stays link holder run, waiting⟩

/-- A change that leaves the link. -/
theorem State.Linked.of_link_eq (h : s.Linked k) (stays : s.Stays t) (same : t.link = s.link) : t.Linked k :=
  h.of_stays stays (by rw [same]; exact h.link) (.inl (by rw [same])) (by rw [same]) (by rw [same]; exact h.waiting)

/-- A change of the link alone, the grant kept. -/
theorem State.Linked.relink (h : s.Linked k) {l : Link} (link : l.InRange) (holder : l.holder = s.link.holder)
    (run : l.breakRun = s.link.breakRun) (waiting : l.phase = .request → l.clearFrames ≤ 2) : State.Linked k { s with link := l } :=
  h.of_stays (.of_stations rfl) link (.inl holder) run waiting

/-- Frames counted up to the 64th. -/
theorem State.Linked.counted (h : s.Linked k) {n : Nat} (few : n ≤ 64) : State.Linked k { s with link.frames := n } :=
  h.relink { h.link with frames := few } rfl rfl h.waiting

theorem State.LinkedEnd.not_free (h : s.LinkedEnd k) (busy : s.link.phase ≠ .free) : s.link.holder ≠ none := mt h.link.free.2 busy

end

/-! ## Ends of a grant -/

namespace State.Linked

section
variable {k : Nat} {s : State} (h : s.Linked k)
include h

theorem endGrant : s.endGrant.Linked k ∧ s.endGrant.link.phase = .free := by
  have stays := s.endGrant_links.chain.stays
  unfold State.endGrant at stays ⊢
  split
  next a held =>
    rw [held] at stays
    exact ⟨h.of_stays stays { h.link with
      free := iff_of_true rfl rfl
      fairness := fun x one => by obtain rfl := Option.some.inj one; exact Nat.zero_le _
      sending := fun out => by rcases out with x | x <;> exact nomatch x } (.inr rfl) rfl nofun, rfl⟩
  next vacant => exact ⟨h, h.link.free.2 vacant⟩

theorem timeOut : s.timeOut.Linked k ∧ s.timeOut.link.phase = .free := by
  have counted : State.Linked k { s with counters.handshakeTimeouts := bump 65535 s.counters.handshakeTimeouts } :=
    h.of_link_eq (.of_stations rfl Counters.Bounded.timeout) rfl
  unfold State.timeOut
  dsimp only
  generalize ({ s with counters.handshakeTimeouts := bump 65535 s.counters.handshakeTimeouts } : State) = u at counted ⊢
  split
  next p _ => exact (counted.of_link_eq (.raiseAt u .linkFault p) (by rw [State.raiseAt_frame])).endGrant
  · exact counted.endGrant

theorem completeAnswer : s.completeAnswer.Linked k ∧ s.completeAnswer.link.phase = .free := by
  have noticed : s.commitNotice.Linked k := h.of_link_eq s.commitNotice_links.chain.stays (by rw [State.commitNotice_frame])
  have committed : s.commitNotice.commitEvents.Linked k :=
    noticed.of_link_eq (State.commitEvents_links _).chain.stays (by rw [State.commitEvents_frame])
  exact committed.endGrant

theorem waitFrame : s.waitFrame.Linked k := by
  unfold State.waitFrame
  split
  next few => exact h.counted (le_of_lt few)
  · exact h.timeOut.1

theorem breakFrame : s.breakFrame.Linked k ∧ (2 ≤ k → s.breakFrame.link.phase = .free) := by
  unfold State.breakFrame
  split_ifs with timed run waits
  · exact ⟨h.timeOut.1, fun _ => h.timeOut.2⟩
  · exact ⟨h.endGrant.1, fun _ => h.endGrant.2⟩
  · rw [h.run] at run
    refine ⟨h.counted ?_, fun long => absurd long run⟩
    rw [waits] at timed
    simp only [Bool.true_and, decide_eq_true_eq] at timed
    omega
  · rw [h.run] at run
    exact ⟨h, fun long => absurd long run⟩

/-! ## Free frames -/

theorem countFreeFrame : s.countFreeFrame.Linked k ∧ s.countFreeFrame.link.phase = s.link.phase := by
  have held (f : Option FairnessHold) (few : ∀ x, f = some x → x.freeFrames ≤ 2) : State.Linked k { s with link.fairness := f } :=
    h.relink { h.link with fairness := few } rfl rfl h.waiting
  unfold State.countFreeFrame
  split
  · split
    next few => exact ⟨held _ fun x one => by obtain rfl := Option.some.inj one; exact le_of_lt few, rfl⟩
    · exact ⟨held none nofun, rfl⟩
  · exact ⟨h, rfl⟩

theorem judgeContention (a : BitVec 4) : (s.judgeContention a).Linked k := by
  unfold State.judgeContention
  split_ifs with unknown held
  · exact h.of_link_eq (.of_stations rfl Counters.Bounded.unknownContention) rfl
  · exact h.of_link_eq (.of_stations rfl Counters.Bounded.fairnessDiscard) rfl
  · obtain ⟨nonzero, known⟩ := not_or.1 unknown
    obtain ⟨p, found⟩ := Option.ne_none_iff_exists'.1 known
    have passes := List.find?_some (show List.find? _ _ = some p from found)
    obtain ⟨occupied, address⟩ := Bool.and_eq_true_iff.1 passes
    have occupies : s.Occupies a := ⟨nonzero, p, Option.isSome_iff_ne_none.1 occupied, of_decide_eq_true address⟩
    exact {
      stations := h.stations
      link := { h.link with
        free := iff_of_false nofun nofun
        frames := Nat.zero_le _
        clearFrames := Nat.zero_le _
        received := Nat.zero_le _
        fairness := nofun
        sending := fun out => by rcases out with x | x <;> exact nomatch x }
      holder := fun b granted => by obtain rfl := Option.some.inj granted; exact occupies
      counts := h.counts
      run := h.run
      waiting := fun _ => Nat.zero_le _ }

theorem freeFrame (a : Option (BitVec 4)) :
    (s.freeFrame a).Linked k ∧ (a = none → (s.freeFrame a).link.phase = s.link.phase) := by
  unfold State.freeFrame
  split
  next b => exact ⟨(h.judgeContention b).countFreeFrame.1, nofun⟩
  · exact ⟨h.countFreeFrame.1, fun _ => h.countFreeFrame.2⟩

end

end State.Linked

end Sys2Proof.Machine
end

section
/-!
PROOF. Requests answered, and with them every frame and every step, keep the laws of the Station Table and of the link (R158, R171, R178, R182,
R186, R189).
-/

namespace Sys2Proof.Machine

/-- What bounds the answer to a request: the queue, the stray list and the rings (R83, R33, R123). -/
abbrev State.ShortReads (s : State) : Prop := QueueLaw s ∧ DirectoryLaw s ∧ RingLaw s

section
variable {k : Nat} {s : State}

/-! ## A request executed -/

theorem handle_stays {i : Kind} (other : i ≠ .setStation) {p : Position} (asks : (s.station p).role ≠ none) (body : List Byte) :
    s.Stays (handle i s p body).1 := by
  by_cases untimed : readsClock i = false
  · exact (handle_chain_of_untimed s p body untimed other asks).stays
  · cases i with
    | setTime => exact setTime_stays s p body
    | postReading => exact postReading_stays s p body
    | holdDistrict => exact holdDistrict_stays s p body
    | _ => exact absurd rfl untimed

/-- A request refused by the role check changes nothing; any other is its rule, by an occupied position that holds the right and the grant. -/
theorem execute_cases (i : Kind) (s : State) (body : List Byte) :
    execute i s body = refuse s .role ∨ ∃ p r, s.link.holder = some (s.station p).address ∧ (s.station p).role = some r ∧
      mayRequest i r = true ∧ execute i s body = handle i s p body := by
  unfold execute
  split
  · exact .inl rfl
  next p asks =>
    split
    · exact .inl rfl
    next r role =>
      split
      next right =>
        obtain ⟨a, held, found⟩ := Option.bind_eq_some_iff.1 (show s.link.holder.bind s.positionOf = some p from asks)
        have passes := List.find?_some (show List.find? _ _ = some p from found)
        have address := of_decide_eq_true (Bool.and_eq_true_iff.1 passes).2
        exact .inr ⟨p, r, by rw [held, address], role, right, rfl⟩
      · exact .inl rfl

/-- Only the telemetry controller writes entries, and none of them is its own (R159, R161). -/
theorem setStation_linkedEnd (h : s.LinkedEnd k) {p : Position} (held : s.link.holder = some (s.station p).address)
    (role : (s.station p).role = some .telemetry) (body : List Byte) : (setStation s p body).1.LinkedEnd k := by
  have handled : handle .setStation s p body = setStation s p body := rfl
  have link := (handle_link_pending .setStation s p body).1
  rw [handled] at link
  rcases setStation_writes s p body with same | ⟨q, st, other, fits, written⟩
  · rw [same]; exact h
  · rw [written] at link ⊢
    have first : p = 0 := by
      by_contra ne
      exact (h.stations.2.2.2.1 p ne).1 role
    have zero := s.setStation_station_of_ne st other.symm
    have counters : (s.setStation q st).counters = s.counters := by
      have frame := s.setStation_effect q st
      generalize s.setStation q st = t at frame
      rw [frame]
    have stations := h.stations.entry other fits
    generalize s.setStation q st = t at link zero counters stations ⊢
    refine { stations := stations, link := ?_, holder := fun a granted => ?_, counts := ?_, run := ?_ }
    · rw [link]; exact h.link
    · rw [link] at granted
      have own : a = (s.station 0).address := by
        rw [held, first] at granted
        exact (Option.some.inj granted).symm
      refine ⟨(h.holder a granted).1, 0, ?_, ?_⟩
      · rw [zero, ← first, role]; nofun
      · rw [zero, own]
    · rw [counters]; exact h.counts
    · rw [link]; exact h.run

theorem State.LinkedEnd.executed (h : s.LinkedEnd k) (reads : s.ShortReads) (i : Kind) (body : List Byte) :
    (execute i s body).1.LinkedEnd k ∧ (execute i s body).1.link = s.link ∧
      ShortReply (execute i s body) := by
  rcases execute_cases i s body with refused | ⟨p, r, held, role, right, handled⟩
  · rw [refused]; exact ⟨h, rfl, shortReply_refuse s .role⟩
  · obtain ⟨queue, directory, ring⟩ := reads
    have link := (handle_link_pending i s p body).1
    rw [handled]
    refine ⟨?_, link, handle_short s p body i queue directory ring⟩
    by_cases station : i = .setStation
    · subst station
      have telemetry : r = .telemetry := of_decide_eq_true right
      exact setStation_linkedEnd h held (role.trans (congrArg some telemetry)) body
    · exact h.of_stays (handle_stays station (by rw [role]; nofun) body) (by rw [link]; exact h.link) (.inl (by rw [link])) (by rw [link])

/-! ## REQUEST (R181, R182, R183) -/

/-- An answer offered while a station holds the grant. -/
theorem State.LinkedEnd.startAnswer (h : s.LinkedEnd k) (held : s.link.holder ≠ none) (b : Byte) {r : Reply} (short : r.body.length ≤ 92) :
    (s.startAnswer b r).Linked k := by
  have size := answerMessage_length b r.status r.body
  exact ⟨h.of_stays (.of_stations rfl) { h.link with
      free := iff_of_false nofun held
      frames := Nat.zero_le _
      answer := by
        change (answerMessage b r.status r.body).length ≤ 96
        omega
      sending := fun _ => by
        change 0 < (answerMessage b r.status r.body).length
        omega } (.inl rfl) rfl, nofun⟩

theorem State.LinkedEnd.refuseEnvelope (h : s.LinkedEnd k) (held : s.link.holder ≠ none) (st : Status) : (s.refuseEnvelope st).Linked k := by
  have counted : State.LinkedEnd k { s with counters := s.counters.afterEnvelope st } :=
    h.of_stays (.of_stations rfl fun counts => counts.afterEnvelope st) h.link (.inl rfl) rfl
  exact counted.startAnswer held _ (Nat.zero_le _)

theorem State.LinkedEnd.messageEnd (h : s.LinkedEnd k) (reads : s.ShortReads) (held : s.link.holder ≠ none) : s.messageEnd.Linked k := by
  unfold State.messageEnd
  split
  · exact h.refuseEnvelope held _
  next i body _ =>
    obtain ⟨executed, link, short⟩ := h.executed reads i body
    exact executed.startAnswer (by rw [link]; exact held) i.code short

theorem State.Linked.requestFrame (h : s.Linked k) (reads : s.ShortReads) (request : s.link.phase = .request) (uv : Bool) (b : Byte) :
    (s.requestFrame uv b).Linked k := by
  have held := h.not_free (by rw [request]; nofun)
  have taken_ : (s.takeByte b).Linked k := by
    unfold State.takeByte
    split
    next room =>
      refine h.relink { h.link with received := ?_ } rfl rfl h.waiting
      rw [List.length_append]; exact room
    · exact h.relink { h.link with } rfl rfl h.waiting
  have cleared : State.Linked k { s.takeByte b with link.recvStep := .clear, link.frames := 0 } :=
    taken_.relink { taken_.link with frames := Nat.zero_le _ } rfl rfl taken_.waiting
  unfold State.requestFrame
  split
  · exact cleared
  · exact cleared
  · exact h.waitFrame
  · exact h.waitFrame
  · exact h.relink { h.link with frames := Nat.zero_le _, clearFrames := Nat.zero_le _ } rfl rfl fun _ => Nat.zero_le _
  · have few := h.waiting request
    have ended : State.LinkedEnd k { s with link.clearFrames := s.link.clearFrames + 1 } :=
      h.toLinkedEnd.of_stays (.of_stations rfl) { h.link with clearFrames := Nat.succ_le_succ few } (.inl rfl) rfl
    dsimp only
    split
    next fewer => exact ⟨ended, fun _ => Nat.le_of_lt_succ fewer⟩
    · exact ended.messageEnd reads held

/-! ## ANSWER and TRAILER (R186, R187) -/

theorem State.Linked.answerFrame (h : s.Linked k) (answers : s.link.phase = .answer) (ua : Bool) : (s.answerFrame ua).Linked k := by
  have held := h.not_free (by rw [answers]; nofun)
  unfold State.answerFrame
  split
  · exact h.relink { h.link with frames := Nat.zero_le _ } rfl rfl h.waiting
  · exact h.waitFrame
  · exact h.waitFrame
  · split
    next more => exact h.relink { h.link with frames := Nat.zero_le _, sending := fun _ => more } rfl rfl h.waiting
    · exact h.relink { h.link with
        free := iff_of_false nofun held, frames := Nat.zero_le _, sending := fun _ => h.link.sending (.inl answers) } rfl rfl nofun

theorem State.Linked.trailerFrame (h : s.Linked k) (ends : Bool) :
    (s.trailerFrame ends).Linked k ∧ (ends = true → (s.trailerFrame ends).link.phase = .free) := by
  unfold State.trailerFrame
  split_ifs with broken few
  · exact ⟨h.endGrant.1, fun _ => h.endGrant.2⟩
  · exact ⟨h.counted (by omega), fun now => absurd now broken⟩
  · exact ⟨h.completeAnswer.1, fun _ => h.completeAnswer.2⟩

/-! ## The frame end (R176, R177, R189) -/

/-- The laws between frames: a run of break frames that a grant survives is of one frame. -/
def State.LinkSettled (s : State) : Prop := ∃ k, s.Linked k ∧ (s.link.phase ≠ .free → k ≤ 1)

theorem linkSettled_iff (s : State) : s.LinkSettled ↔ StationLaw s ∧ LinkLaw s := by
  rw [linkLaw_iff]
  constructor
  · rintro ⟨k, linked, grant⟩
    obtain rfl := linked.run
    exact ⟨linked, grant⟩
  · exact fun ⟨linked, grant⟩ => ⟨_, linked, grant⟩

theorem State.LinkSettled.nextFrame (h : s.LinkSettled) : s.nextFrame.LinkSettled := by
  obtain ⟨k, linked, grant⟩ := h
  exact ⟨k, linked.relink { linked.link with } rfl rfl linked.waiting, grant⟩

theorem State.LinkSettled.stays {t : State} (h : s.LinkSettled) (stays : s.Stays t) (same : t.link = s.link) : t.LinkSettled := by
  obtain ⟨k, linked, grant⟩ := h
  exact ⟨k, linked.of_link_eq stays same, by rw [same]; exact grant⟩

/-- The break run set, whatever the grant. -/
theorem State.Linked.rerun (h : s.Linked k) {n : Nat} (few : n ≤ 16) : State.Linked n { s with link.breakRun := n } :=
  ⟨⟨h.stations, { h.link with breakRun := few }, h.holder, h.counts, rfl⟩, h.waiting⟩

theorem State.Linked.countBreak (h : s.Linked k) (b : Bool) :
    ∃ n, (s.countBreak b).Linked n ∧ (s.countBreak b).link.phase = s.link.phase ∧ (b = false → n = 0) ∧ (2 ≤ n → b = true) := by
  unfold State.countBreak
  split_ifs with isBreak more last
  · have counted : State.Linked k { s with counters.linkBreaks := bump 65535 s.counters.linkBreaks } :=
      h.of_link_eq (.of_stations rfl Counters.Bounded.linkBreak) rfl
    exact ⟨16, counted.rerun (le_refl _), rfl, fun quiet => absurd isBreak (by rw [quiet]; decide), fun _ => isBreak⟩
  · exact ⟨s.link.breakRun + 1, h.rerun more, rfl, fun quiet => absurd isBreak (by rw [quiet]; decide), fun _ => isBreak⟩
  · exact ⟨k, h, rfl, fun quiet => absurd isBreak (by rw [quiet]; decide), fun _ => isBreak⟩
  · exact ⟨0, h.rerun (Nat.zero_le _), rfl, fun _ => rfl, nofun⟩

theorem State.ShortReads.countBreak (h : s.ShortReads) (b : Bool) : (s.countBreak b).ShortReads := by
  unfold State.countBreak
  split_ifs
  · exact h
  · exact h
  · exact h
  · exact h

theorem State.LinkSettled.frameEnd (h : s.LinkSettled) (reads : s.ShortReads) (up : BitVec 32) : (s.frameEnd up).LinkSettled := by
  obtain ⟨k, linked, -⟩ := h
  obtain ⟨n, counted, -, quiet, broken⟩ := linked.countBreak (isBreakFrame up)
  have reads := reads.countBreak (isBreakFrame up)
  have none_long (not_broken : ¬ isBreakFrame up = true) : n ≤ 1 := by
    rw [quiet (Bool.eq_false_iff.2 not_broken)]; exact Nat.zero_le _
  unfold State.frameEnd
  dsimp only
  generalize s.countBreak (isBreakFrame up) = u at counted reads
  refine State.LinkSettled.nextFrame ?_
  have broke (frame : u.breakFrame.Linked n ∧ (2 ≤ n → u.breakFrame.link.phase = .free)) : u.breakFrame.LinkSettled :=
    ⟨n, frame.1, fun grant => Nat.le_of_lt_succ (Nat.lt_of_not_le fun long => grant (frame.2 long))⟩
  split
  next free =>
    obtain ⟨next_, same⟩ := counted.freeFrame (contenderOf up)
    refine ⟨n, next_, fun grant => ?_⟩
    by_cases isBreak : isBreakFrame up = true
    · have unheard : contenderOf up = none := by
        unfold contenderOf
        rw [isBreak]
        rfl
      exact absurd ((same unheard).trans free) grant
    · exact none_long isBreak
  next request =>
    split
    · exact broke counted.breakFrame
    next quiet_ => exact ⟨n, counted.requestFrame reads request _ _, fun _ => none_long quiet_⟩
  next answers =>
    split
    · exact broke counted.breakFrame
    next quiet_ => exact ⟨n, counted.answerFrame answers _, fun _ => none_long quiet_⟩
  · obtain ⟨next_, ended⟩ := counted.trailerFrame (isBreakFrame up && decide (2 ≤ u.link.breakRun))
    refine ⟨n, next_, fun grant => Nat.le_of_lt_succ (Nat.lt_of_not_le fun long => grant (ended ?_))⟩
    rw [counted.run, broken long, decide_eq_true long]
    rfl

/-! ## Rows -/

theorem State.Linked.received (h : s.Linked k) (m : List Byte) : (s.received m).LinkedEnd 0 where
  stations := h.stations
  link := { h.link with
    frames := Nat.zero_le _
    clearFrames := le_refl _
    received := by
      change (m.take 64).length ≤ 64
      rw [List.length_take]; exact min_le_left _ _
    breakRun := Nat.zero_le _ }
  holder := h.holder
  counts := h.counts
  run := rfl

theorem State.LinkSettled.request (h : s.LinkSettled) (reads : s.ShortReads) (i : Kind) (body : List Byte) : (s.request i body).LinkSettled := by
  obtain ⟨k, linked, grant⟩ := id h
  unfold State.request
  split
  next request =>
    have held := linked.not_free (by rw [request]; nofun)
    exact State.LinkSettled.nextFrame ⟨0, (linked.received _).messageEnd reads held, fun _ => Nat.zero_le _⟩
  · exact h

theorem State.LinkSettled.onQuietRow (h : s.LinkSettled) (applies : Bool) {f : State → State} (linked : ∀ u : State, u.Linked 0 → (f u).Linked 0) :
    (quietRow applies f s).LinkSettled := by
  obtain ⟨k, now, -⟩ := id h
  unfold quietRow frameRow
  split
  · exact State.LinkSettled.nextFrame ⟨0, linked _ (now.rerun (Nat.zero_le _)), fun _ => Nat.zero_le _⟩
  · exact h

theorem State.reach_link (s : State) (e : ClockEvent) : (s.reach e).link = s.link :=
  link_of_outside (f := (State.reach · e)) (fun s l q => s.reach_outside l q e) s

theorem taken_law {P : State → Prop} {s t : State} {f : State → State} (law : P s) (moves : P (f s)) (row : taken f s = .next t) : P t := by
  obtain rfl : (if s.running then f s else s) = t := Host.Outcome.next.inj row
  split
  · exact moves
  · exact law

theorem afterReset_linkSettled {t : State} (reset : t.IsReset) : t.LinkSettled := by
  obtain ⟨strap, running, dn, q, n, rfl⟩ := reset
  obtain ⟨k, linked, grant⟩ := (linkSettled_iff _).2 ⟨afterReset_stationLaw strap, afterReset_linkLaw strap⟩
  have redrawn := linked.relink (l := { (State.afterReset strap).link with dn := dn }) { linked.link with } rfl rfl linked.waiting
  exact ⟨k, redrawn.of_link_eq (.of_stations rfl) rfl, grant⟩

/-- Every row keeps the laws of the Station Table and of the link. -/
theorem exec_linkSettled {s t : State} (c : Instr) (h : s.LinkSettled) (reads : s.ShortReads) (row : exec c s = .next t) : t.LinkSettled := by
  cases request : c.requestKind with
  | some i =>
    obtain ⟨body, with_⟩ := requestBody_of_requestKind request
    rw [exec_of_request request with_] at row
    exact taken_law (f := fun u => u.request i body) h (h.request reads i body) row
  | none =>
    obtain ⟨k, linked, grant⟩ := id h
    cases c with
    | powerOnReset strap => obtain rfl := Host.Outcome.next.inj row; exact afterReset_linkSettled ⟨strap, _, _, _, _, rfl⟩
    | rstnHeldLow => obtain rfl := Host.Outcome.next.inj row; exact afterReset_linkSettled ⟨0#4, _, _, _, _, rfl⟩
    | minuteEvent =>
      exact taken_law (f := State.minuteEvent) h (h.stays s.minuteEvent_stays (link_of_outside State.minuteEvent_outside s)) row
    | windowStart =>
      refine taken_law (f := fun s : State =>
        if s.nck.clock = s.windowStartOf s.nck.clock.day ∧ s.eligible s.nck.clock.day = true then s.reachWindowStart s.nck.clock.day else s) h ?_ row
      split
      · exact h.stays (s.reach_stays (.windowStart s.nck.clock.day)) (s.reach_link (.windowStart s.nck.clock.day))
      · exact h
    | windowEnd =>
      refine taken_law (f := fun s : State => if s.atBoundary State.windowEndOf then s.reachWindowEnd else s) h ?_ row
      split
      · exact h.stays (s.reach_stays .windowEnd) (s.reach_link .windowEnd)
      · exact h
    | graceExpiry =>
      refine taken_law (f := fun s : State => if s.atBoundary State.graceExpiryOf then s.reachGraceExpiry else s) h ?_ row
      split
      · exact h.stays (s.reach_stays .graceExpiry) (s.reach_link .graceExpiry)
      · exact h
    | holdExpiry d =>
      exact taken_law (f := fun s : State => State.expireIfReached s.nck.clock s d) h
        (h.stays (s.expireIfReached_chain _ d).stays
          (link_of_outside (f := fun u => State.expireIfReached s.nck.clock u d) (fun u l q => u.expireIfReached_outside l q _ d) s)) row
    | choice => exact taken_law (f := State.choose) h (h.stays s.choose_chain.stays (link_of_outside State.choose_outside s)) row
    | evaluationCompletion =>
      exact taken_law (f := State.completeEvaluation) h
        (h.stays s.completeEvaluation_chain.stays (link_of_outside State.completeEvaluation_outside s)) row
    | contention a =>
      exact taken_law (f := fun s : State => quietRow (decide (s.link.phase = .free)) (fun s => s.freeFrame (some a)) s) h
        (h.onQuietRow _ fun u now => (now.freeFrame (some a)).1) row
    | fairnessHoldCleared =>
      exact taken_law (f := fun s : State => quietRow (decide (s.link.phase = .free)) (fun s => { s with link.fairness := none }) s) h
        (h.onQuietRow _ fun u now => now.relink { now.link with fairness := nofun } rfl rfl now.waiting) row
    | envelopeCheckRefusal m =>
      refine taken_law (f := fun s : State => match openEnvelope (m.take 64) (decide (64 < m.length)) with
        | .refused st => frameRow (decide (s.link.phase = .request) && !m.isEmpty) (fun s => (s.received m).refuseEnvelope st) s
        | .request _ _ => s) h ?_ row
      split
      · unfold frameRow
        split
        next applies =>
          have request := of_decide_eq_true (Bool.and_eq_true_iff.1 applies).1
          have held := linked.not_free (by rw [request]; nofun)
          exact State.LinkSettled.nextFrame ⟨0, (linked.received m).refuseEnvelope held _, fun _ => Nat.zero_le _⟩
        · exact h
      · exact h
    | answerCompletion =>
      exact taken_law (f := fun s : State => quietRow (decide (s.link.phase = .trailer)) State.completeAnswer s) h
        (h.onQuietRow _ fun u now => now.completeAnswer.1) row
    | handshakeTimeout =>
      exact taken_law (f := fun s : State => quietRow s.link.timedStep State.timeOut s) h (h.onQuietRow _ fun u now => now.timeOut.1) row
    | breakEndsGrant =>
      refine taken_law (f := fun s : State => frameRow (decide (s.link.phase ≠ .free))
          (fun s => State.breakGrant { s with link.breakRun := 2 }) s) h ?_ row
      unfold frameRow
      split
      · obtain ⟨ended, free⟩ := (linked.rerun (n := 2) (by decide)).endGrant
        exact State.LinkSettled.nextFrame ⟨2, ended, fun grant => absurd free grant⟩
      · exact h
    | linkBreak =>
      refine taken_law (f := fun s : State => frameRow (decide (s.link.phase = .free) && decide (s.link.breakRun < 16))
          (fun s => { s with link.breakRun := 16, link.fairness := none, counters.linkBreaks := bump 65535 s.counters.linkBreaks }) s) h ?_ row
      unfold frameRow
      split
      next applies =>
        have free := of_decide_eq_true (Bool.and_eq_true_iff.1 applies).1
        have broken := (linked.rerun (n := 16) (le_refl _)).relink
          (l := { s.link with breakRun := 16, fairness := none }) { linked.link with breakRun := le_refl _, fairness := nofun } rfl rfl linked.waiting
        exact State.LinkSettled.nextFrame ⟨16, broken.of_link_eq (.of_stations rfl Counters.Bounded.linkBreak) rfl, fun grant => absurd free grant⟩
      · exact h
    | frameEnd up => exact taken_law (f := fun s : State => s.frameEnd up) h (h.frameEnd reads up) row
    | _ => exact nomatch request

/-- Settles O59, row by row: requests and frames by the link's laws, every other row by what stations stay through. -/
theorem stepsKeepTheLink : Obligations.StepsKeepTheLink := by
  intro s t moves stations queue directory ring link
  have settled := (linkSettled_iff s).2 ⟨stations, link⟩
  refine (linkSettled_iff t).1 ?_
  unfold step at moves
  split at moves
  · obtain rfl := Host.Outcome.next.inj moves
    unfold State.crystalPeriod
    split
    · split
      · exact settled.stays (.of_stations rfl) rfl
      · exact settled.stays s.minuteEvent_stays (link_of_outside State.minuteEvent_outside s)
    · exact settled
  next c rest _ =>
    have waiting : State.LinkSettled { s with pending := rest } := settled.stays (.of_stations rfl) rfl
    exact exec_linkSettled c waiting ⟨queue, directory, ring⟩ moves

end

end Sys2Proof.Machine
end
